-- ==== Sys2Proof/Word.lean ====
section
/-! DEFINITION. The words of the register protocol codec (RPC) and their widths: spec/00_scope.md rule R7
(CMD_W, ADDR_W, DATA_W, COMPOSITE_W) and spec/30_encoding.md rules R53, R57. -/

namespace Sys2Proof

/-- A device register, a data byte, the CRC: DATA_W = CRC_W = 8 bits (R7). -/
abbrev Byte := BitVec 8

/-- A 4-bit command code: CMD_W (R7). -/
abbrev Cmd := BitVec 4

/-- A RegisterAddress: ADDR_W = 12 bits (R7, R35). -/
abbrev Addr := BitVec 12

/-- A wire frame: 24 bits (R53). -/
abbrev Frame := BitVec 24

/-- The composite of the angle assembler: COMPOSITE_W = 24 bits (R7, R18). -/
abbrev Composite := BitVec 24

/-- A request argument or a response value: 32 bits (R57, R59). -/
abbrev Word := BitVec 32

/-- A request word: 40 bits (R57). -/
abbrev ReqWord := BitVec 40

end Sys2Proof
end

