-- ==== Sys2Proof/Config.lean ====
section
/-! DEFINITION. The parameters of RPC (spec/00_scope.md rule R7): the values the source fixes, the open parameters as
the fields of `Config` with their defaults, the constraints every instantiation meets, and the one free value of the model. -/

namespace Sys2Proof

/-- RMW2_ORDER (R7, R124): the place of the low read in a two-register setter. -/
inductive Rmw2Order where
  | readFirst        -- read low, write high, write low (the default)
  | writeHighFirst   -- write high, read low, write low
  deriving DecidableEq, Repr

/-- CRC_SLICE_SOURCE (R7, R99): what the three CRC slices are cut from. -/
inductive CrcSliceSource where
  | composite24   -- the 24-bit composite (the normative reading, the default)
  | rawAngle21    -- rawAngle = composite >> 3
  deriving DecidableEq, Repr

/-- The open parameters of R7. They are constants of the build: `State.build` holds them and no step changes them. -/
structure Config where
  opcRd          : Cmd
  opcWr          : Cmd
  opcZero        : Cmd
  opcProg        : Cmd
  opcBurst       : Cmd
  addrUserId     : Addr
  addrAngle      : Addr
  addrAbzResH    : Addr
  addrAbzResL    : Addr
  addrZeroH      : Addr
  addrZeroL      : Addr
  addrUvwCfg     : Addr
  addrHyst       : Addr
  cmdAddr        : Addr
  cmdData        : Byte
  terrW          : Nat
  degFrac        : Nat
  rmw2Order      : Rmw2Order
  crcSliceSource : CrcSliceSource
  deriving DecidableEq, Repr

namespace Config

/-- The column "Default (spec)" of R7: one instantiation of the open parameters (PRESUMED and DESIGN CHOICE, assumptions 1,
2, 3). -/
def default : Config where
  opcRd          := 0b0011
  opcWr          := 0b0110
  opcZero        := 0b0101
  opcProg        := 0b1100
  opcBurst       := 0b1010
  addrUserId     := 0x001
  addrAngle      := 0x003
  addrAbzResH    := 0x007
  addrAbzResL    := 0x008
  addrZeroH      := 0x009
  addrZeroL      := 0x00A
  addrUvwCfg     := 0x00B
  addrHyst       := 0x00D
  cmdAddr        := 0x000
  cmdData        := 0x00
  terrW          := 8
  degFrac        := 16
  rmw2Order      := .readFirst
  crcSliceSource := .composite24

/-- ADDR_MAX (R7): the highest register address of this chip family. -/
def addrMax : Addr := 0x1FF

/-- ACK_BYTE (R7): the acknowledgement byte of the two commands. -/
def ackByte : Byte := 0x55

/-- CRC_POLY (R7): the CRC feedback constant. -/
def crcPoly : Byte := 0x07

/-- CRC_INIT (R7): the CRC start value. -/
def crcInit : Byte := 0x00

/-- The five command codes (R55, R56). -/
def opcs (c : Config) : List Cmd := [c.opcRd, c.opcWr, c.opcZero, c.opcProg, c.opcBurst]

/-- The eleven registers RPC names (R27): user id, four angle, two resolution, two zero, UVW config, hysteresis. -/
def registers (c : Config) : List Addr :=
  [c.addrUserId, c.addrAngle, c.addrAngle + 1, c.addrAngle + 2, c.addrAngle + 3, c.addrAbzResH, c.addrAbzResL,
   c.addrZeroH, c.addrZeroL, c.addrUvwCfg, c.addrHyst]

/-- The constraints of R7 on the open parameters, "which every instantiation must meet". -/
abbrev Ok (c : Config) : Prop :=
  c.opcs.Nodup ∧
  c.registers.Nodup ∧
  (∀ a ∈ c.registers, a ≤ addrMax) ∧
  c.addrAngle.toNat + 3 ≤ addrMax.toNat ∧
  c.addrAbzResL.toNat = c.addrAbzResH.toNat + 1 ∧
  c.addrZeroL.toNat = c.addrZeroH.toNat + 1

/-- FREE VALUE (assumption 5). The byte a device register that nothing has written answers with: R34 "a model must treat
the first read of each as any byte", U5 "any value on each read". Applied to the counter `State.draws`. -/
opaque freeByte : Nat → Byte

end Config

end Sys2Proof
end

