-- ==== Sys2Proof/Syntax.lean ====
section
/-! DEFINITION. The instructions: one constructor per row of spec/opcode_table.json. Five wire commands (format F24,
spec/30_encoding.md rules R53 to R56) and twenty-five host operations (format REQ, rules R57, R58). The bits a form
marks "ignored" (R57) are not operands and have no place here. -/

namespace Sys2Proof

inductive Instr where
  -- the five wire commands: one frame each, address and data fields (R55)
  | wireRd    (addr : Addr) (tx : Byte)
  | wireWr    (addr : Addr) (tx : Byte)
  | wireZero  (addr : Addr) (tx : Byte)
  | wireProg  (addr : Addr) (tx : Byte)
  | wireBurst (addr : Addr) (tx : Byte)
  -- the register codec operations: forms A, AD, MAD (R57)
  | rdreg (addr : Addr)
  | wrreg (addr : Addr) (data : Byte)
  | rmw   (addr : Addr) (mask newBits : Byte)
  -- the angle assembler: form N
  | rdangle
  -- the parameter accessors: getters form N, setters form V, SZPOS form Q
  | guid
  | suid (v : Word)
  | gres
  | sres (v : Word)
  | gabz
  | sabz (v : Word)
  | gswap
  | sswap (v : Word)
  | gzpos
  | szpos (d : Word)
  | gzedge
  | szedge (v : Word)
  | gzwid
  | szwid (v : Word)
  | gzph
  | szph (v : Word)
  | gdir
  | sdir (v : Word)
  -- the command operations: form N
  | zero
  | prog
  | burst
  deriving DecidableEq, Repr

/-- A wire command (a frame, F24), as against a host operation (a request, REQ). -/
def Instr.isWire : Instr → Bool
  | .wireRd _ _ | .wireWr _ _ | .wireZero _ _ | .wireProg _ _ | .wireBurst _ _ => true
  | .rdreg _ | .wrreg _ _ | .rmw _ _ _ | .rdangle | .guid | .suid _ | .gres | .sres _ | .gabz | .sabz _ | .gswap
  | .sswap _ | .gzpos | .szpos _ | .gzedge | .szedge _ | .gzwid | .szwid _ | .gzph | .szph _ | .gdir | .sdir _
  | .zero | .prog | .burst => false

end Sys2Proof
end

