-- ==== Sys2Proof/Decode.lean ====
section
/-! DEFINITION. Decoding: the request word (spec/30_encoding.md rules R57, R58) and the wire frame (rules R53, R55, R56),
total on every word, rejecting by name; then the encoder, written from the same tables. -/

namespace Sys2Proof

/-- Why a word is no instruction. -/
inductive DecodeError where
  | unknownOperation (op : Byte)    -- an op code outside the table of R58 (R71: RPC then ends IllegalOperation)
  | undefinedCommand (code : Cmd)   -- a command code that is none of the five (R56)
  | noSuchFormat (nbits : Nat)      -- R72: every wire frame is 24 bits and every request is 40 bits
  deriving DecidableEq, Repr

/-- FRAME = {cmd, addr, tx} (R53). -/
def packFrame (cmd : Cmd) (addr : Addr) (tx : Byte) : Frame :=
  (cmd.setWidth 24 <<< 20) ||| (addr.setWidth 24 <<< 8) ||| tx.setWidth 24

/-- FRAME[23:20] (R53). -/
def frameCmd (f : Frame) : Cmd := f.extractLsb' 20 4

/-- FRAME[19:8] (R53). -/
def frameAddr (f : Frame) : Addr := f.extractLsb' 8 12

/-- FRAME[7:0] (R53). -/
def frameTx (f : Frame) : Byte := f.extractLsb' 0 8

/-- REQ = {op, arg} (R57). -/
def packRequest (op : Byte) (arg : Word) : ReqWord :=
  (op.setWidth 40 <<< 32) ||| arg.setWidth 40

/-- REQ[39:32] (R57). -/
def requestOp (w : ReqWord) : Byte := w.extractLsb' 32 8

/-- REQ[31:0] (R57). -/
def requestArg (w : ReqWord) : Word := w.extractLsb' 0 32

/-- The operation of an op code and its argument: the table of R58, the forms of R57. -/
def decodeOp (op : Byte) (arg : Word) : Except DecodeError Instr :=
  match op with
  | 0x01#8 => .ok (.rdreg (arg.extractLsb' 0 12))
  | 0x02#8 => .ok (.wrreg (arg.extractLsb' 8 12) (arg.extractLsb' 0 8))
  | 0x03#8 => .ok (.rmw (arg.extractLsb' 8 12) (arg.extractLsb' 20 8) (arg.extractLsb' 0 8))
  | 0x08#8 => .ok .rdangle
  | 0x10#8 => .ok .guid
  | 0x11#8 => .ok (.suid arg)
  | 0x12#8 => .ok .gres
  | 0x13#8 => .ok (.sres arg)
  | 0x14#8 => .ok .gabz
  | 0x15#8 => .ok (.sabz arg)
  | 0x16#8 => .ok .gswap
  | 0x17#8 => .ok (.sswap arg)
  | 0x18#8 => .ok .gzpos
  | 0x19#8 => .ok (.szpos arg)
  | 0x1A#8 => .ok .gzedge
  | 0x1B#8 => .ok (.szedge arg)
  | 0x1C#8 => .ok .gzwid
  | 0x1D#8 => .ok (.szwid arg)
  | 0x1E#8 => .ok .gzph
  | 0x1F#8 => .ok (.szph arg)
  | 0x20#8 => .ok .gdir
  | 0x21#8 => .ok (.sdir arg)
  | 0x30#8 => .ok .zero
  | 0x31#8 => .ok .prog
  | 0x32#8 => .ok .burst
  | _ => .error (.unknownOperation op)

/-- A request word (R57). -/
def decodeRequest (w : ReqWord) : Except DecodeError Instr := decodeOp (requestOp w) (requestArg w)

/-- A wire frame under the build's five command codes (R53, R55). -/
def decodeFrame (c : Config) (f : Frame) : Except DecodeError Instr :=
  if frameCmd f = c.opcRd then .ok (.wireRd (frameAddr f) (frameTx f))
  else if frameCmd f = c.opcWr then .ok (.wireWr (frameAddr f) (frameTx f))
  else if frameCmd f = c.opcZero then .ok (.wireZero (frameAddr f) (frameTx f))
  else if frameCmd f = c.opcProg then .ok (.wireProg (frameAddr f) (frameTx f))
  else if frameCmd f = c.opcBurst then .ok (.wireBurst (frameAddr f) (frameTx f))
  else .error (.undefinedCommand (frameCmd f))

/-- The words of the two formats (R72): a 24-bit frame or a 40-bit request. -/
inductive Code where
  | frame (f : Frame)
  | request (w : ReqWord)
  deriving DecidableEq, Repr

/-- Decoding a word of either format. -/
def decode (c : Config) : Code → Except DecodeError Instr
  | .frame f => decodeFrame c f
  | .request w => decodeRequest w

/-- A numeral of `nbits` bits: 24 bits are a frame, 40 bits a request, any other width no format (R72). -/
def decodeWord (c : Config) (nbits w : Nat) : Except DecodeError Instr :=
  if nbits = 24 then decodeFrame c (BitVec.ofNat 24 w)
  else if nbits = 40 then decodeRequest (BitVec.ofNat 40 w)
  else .error (.noSuchFormat nbits)

/-- The instruction the decoder reads from a row of the opcode table, under the default parameters (the table's codes). -/
def decodeTableWord (nbits w : Nat) : Option Instr :=
  match decodeWord Config.default nbits w with
  | .ok i => some i
  | .error _ => none

/-- Form AD: arg[19:8] = addr, arg[7:0] = data (R57). -/
def argAd (addr : Addr) (data : Byte) : Word := (addr.setWidth 32 <<< 8) ||| data.setWidth 32

/-- Form MAD: arg[27:20] = mask, arg[19:8] = addr, arg[7:0] = newBits (R57). -/
def argMad (addr : Addr) (mask newBits : Byte) : Word :=
  (mask.setWidth 32 <<< 20) ||| (addr.setWidth 32 <<< 8) ||| newBits.setWidth 32

/-- Form A: arg[11:0] = addr (R57). -/
def argA (addr : Addr) : Word := addr.setWidth 32

/-- The encoder: the word of an instruction, ignored bits zero (R53, R55, R57, R58). -/
def encode (c : Config) : Instr → Code
  | .wireRd addr tx => .frame (packFrame c.opcRd addr tx)
  | .wireWr addr tx => .frame (packFrame c.opcWr addr tx)
  | .wireZero addr tx => .frame (packFrame c.opcZero addr tx)
  | .wireProg addr tx => .frame (packFrame c.opcProg addr tx)
  | .wireBurst addr tx => .frame (packFrame c.opcBurst addr tx)
  | .rdreg addr => .request (packRequest 0x01 (argA addr))
  | .wrreg addr data => .request (packRequest 0x02 (argAd addr data))
  | .rmw addr mask newBits => .request (packRequest 0x03 (argMad addr mask newBits))
  | .rdangle => .request (packRequest 0x08 0)
  | .guid => .request (packRequest 0x10 0)
  | .suid v => .request (packRequest 0x11 v)
  | .gres => .request (packRequest 0x12 0)
  | .sres v => .request (packRequest 0x13 v)
  | .gabz => .request (packRequest 0x14 0)
  | .sabz v => .request (packRequest 0x15 v)
  | .gswap => .request (packRequest 0x16 0)
  | .sswap v => .request (packRequest 0x17 v)
  | .gzpos => .request (packRequest 0x18 0)
  | .szpos d => .request (packRequest 0x19 d)
  | .gzedge => .request (packRequest 0x1A 0)
  | .szedge v => .request (packRequest 0x1B v)
  | .gzwid => .request (packRequest 0x1C 0)
  | .szwid v => .request (packRequest 0x1D v)
  | .gzph => .request (packRequest 0x1E 0)
  | .szph v => .request (packRequest 0x1F v)
  | .gdir => .request (packRequest 0x20 0)
  | .sdir v => .request (packRequest 0x21 v)
  | .zero => .request (packRequest 0x30 0)
  | .prog => .request (packRequest 0x31 0)
  | .burst => .request (packRequest 0x32 0)

end Sys2Proof
end

