-- ==== Sys2Proof/Machine/State.lean ====
section
/-! DEFINITION. The state of RPC (spec/10_state.md rule R13) with its two port lists (rules R25, R26), the environment the
model holds beside it (the device register array of spec/20_memory.md rule R50 and the schedule of input pins), the
reasons a step can stop, and the state after reset (rules R34, R168). Plain data throughout. -/

namespace Sys2Proof.Machine

/-- The device register space (R35) as the ideal device holds it (R50): a partial map from addresses to bytes, in the
canonical form `Memory.wf` (Machine/Memory.lean). An unlisted register holds no known byte (U5, assumption 5). -/
abbrev Memory := List Host.Cell

/-- SEQ, the sequencer state (R14). -/
inductive Seq where
  | idle     -- no operation in hand, none has ended since reset
  | run      -- an operation is in hand and RPC is between exchanges
  | waitX    -- an exchange is outstanding
  | settle   -- PROG was acknowledged and the settle interval has not elapsed
  | done     -- the operation has ended and RSP holds its result
  deriving DecidableEq, Repr

/-- ZERO_STATE and PROG_STATE (R22). -/
inductive CmdState where
  | idle
  | sent
  | acknowledged
  | failed
  deriving DecidableEq, Repr

/-- The error an operation ends with (R147) and what it records (R149): the transport payload, TERR_W bits (R7); the
sample of a checksum mismatch, in the layout an Ok would have used. -/
inductive OpError where
  | transport (info : Nat)
  | invalidArgument
  | checksumMismatch (sample : Word)
  | unexpectedAcknowledgement
  | decodeFailure
  | illegalOperation
  deriving DecidableEq, Repr

/-- RSP, the response record (R20); `absent` is its "None". -/
inductive Rsp where
  | absent
  | ok (val : Word)
  | err (e : OpError)
  deriving DecidableEq, Repr

/-- What `Xchg` returns to the rule that asked (R9, R76): `(rx, Ok)` or `Fail(info)`, the latter without a byte. -/
inductive Reply where
  | ok (rx : Byte)
  | fail (info : Nat)
  deriving DecidableEq, Repr

/-- The environment's own choice in a cycle that ends a wait (assumption 6): the response is the ideal device's (R50), or
it is what the wires say and the device did or did not act on the frame (R152, R169). -/
inductive DeviceMove where
  | ideal
  | acts
  | ignores
  deriving DecidableEq, Repr

/-- The input pins in one step: RESET (R167), the host port (R25), the transceiver port and the settle timer's event
(R26), with the environment's choice of what the device does. -/
structure Pins where
  reset         : Bool := false
  reqValid      : Bool := false
  req           : ReqWord := 0
  xrspValid     : Bool := false
  xrspData      : Byte := 0
  xrspFail      : Bool := false
  xrspInfo      : Nat := 0
  settleElapsed : Bool := false
  device        : DeviceMove := .ideal
  deriving DecidableEq, Repr

structure State where
  build      : Config              -- the open parameters, constants of the build (R7)
  seq        : Seq                 -- SEQ (R14)
  stepCount  : BitVec 3            -- STEP (R15)
  reqOp      : Byte                -- REQ_OP (R16)
  reqArg     : Word                -- REQ_ARG (R16)
  tmp        : Byte                -- TMP (R17)
  wdh        : Byte                -- WDH (R19)
  wdl        : Byte                -- WDL (R19)
  composite  : Composite           -- COMPOSITE (R18)
  crcRx      : Byte                -- CRC_RX (R18)
  crc        : Byte                -- CRC (R18)
  rsp        : Rsp                 -- RSP (R20)
  zeroState  : CmdState            -- ZERO_STATE (R22)
  progState  : CmdState            -- PROG_STATE (R22)
  xout       : Option Frame        -- XOUT (R23); none is "empty"
  reply      : Option Reply        -- the model's own: what Xchg returned, until the rule that asked continues (assumption 12)
  pins       : Pins                -- the input pins of this step (R25, R26, R167)
  env        : List Pins           -- the model's own: the pins of the steps to come, all quiet when it runs out (assumption 10)
  dev        : Memory              -- DEV, the environment's device registers (R27, R50)
  draws      : Nat                 -- the model's own: how many free device bytes have been drawn (assumption 5)
  deriving DecidableEq, Repr

/-- Why a step stops with a fault. No step from a state that meets `State.Inv` (Safety.lean) does. -/
inductive Fault where
  /-- Raised by a meaning run in SEQ = Run when STEP and the answer in hand name no point of the operation's line (R15:
  STEP with the operation code says which exchange comes next). Safe. -/
  | noSuchStep
  deriving DecidableEq, Repr

/-- Why a step is refused. -/
inductive Refusal where
  /-- Raised by exec's arm of an instruction that has no meaning yet. There is none. Safe. -/
  | notModelled (mnemonic : String)
  deriving DecidableEq, Repr

/-- What a meaning answers. -/
abbrev Result := Host.Outcome State Fault Refusal

/-- The state after reset (R34, R168) under the default parameters, with quiet pins and no device register known. The
request latch and the working registers, to which R34 gives no value, hold 0 (DESIGN CHOICE, assumption 4). -/
def State.reset : State where
  build     := Config.default
  seq       := .idle
  stepCount := 0
  reqOp     := 0
  reqArg    := 0
  tmp       := 0
  wdh       := 0
  wdl       := 0
  composite := 0
  crcRx     := 0
  crc       := 0
  rsp       := .absent
  zeroState := .idle
  progState := .idle
  xout      := none
  reply     := none
  pins      := {}
  env       := []
  dev       := []
  draws     := 0

end Sys2Proof.Machine
end

