-- ==== Sys2Proof/Machine/Crc.lean ====
section
/-! DEFINITION. The multi-byte angle assembly and the CRC-8 validator: spec/41_angle_crc.md rules R91 and R94 to R99,
spec/30_encoding.md rules R68, R69. -/

namespace Sys2Proof.Machine

/-- One bit of the byte update: shift left, exclusive-or CRC_POLY when the top bit was 1, 8 bits (R94). -/
def crc8Shift (crc : Byte) : Byte := if crc.msb then (crc <<< 1) ^^^ Config.crcPoly else crc <<< 1

/-- `k` bits of the byte update. -/
def crc8Shifts : Nat → Byte → Byte
  | 0, crc => crc
  | k + 1, crc => crc8Shifts k (crc8Shift crc)

/-- `crc8_update(crc, B)`: exclusive-or the byte in, then eight shifts (R94). -/
def crc8Update (crc b : Byte) : Byte := crc8Shifts 8 (crc ^^^ b)

/-- What the slices are cut from (R95, R99): the composite, or rawAngle = composite >> 3. -/
def crcSource (src : CrcSliceSource) (c : Composite) : Composite :=
  match src with
  | .composite24 => c
  | .rawAngle21 => c >>> 3

/-- `B1 = trunc_8(c >> 13)` (R95, R96). -/
def crcSlice1 (c : Composite) : Byte := (c >>> 13).setWidth 8

/-- `B2 = (c >> 5) & 0xFF` (R95). -/
def crcSlice2 (c : Composite) : Byte := (c >>> 5).setWidth 8

/-- `B3 = (c << 3) & 0xFF` (R95). -/
def crcSlice3 (c : Composite) : Byte := (c <<< 3).setWidth 8

/-- `crc8_angle(c)`: the three slices folded in the order B1, B2, B3 from CRC_INIT (R97). -/
def crc8Angle (src : CrcSliceSource) (c : Composite) : Byte :=
  let a := crcSource src c
  crc8Update (crc8Update (crc8Update Config.crcInit (crcSlice1 a)) (crcSlice2 a)) (crcSlice3 a)

/-- The byte at ADDR_ANGLE + i ORed into the composite at bit offset 16 - 8 * i (R90, R91). -/
def orByte (c : Composite) (i : Nat) (b : Byte) : Composite := c ||| (b.setWidth 24 <<< (16 - 8 * i))

/-- `{CRC_RX[7:0], COMPOSITE[23:0]}`, the value of an angle sample (R59, R90). -/
def sampleWord (crcRx : Byte) (c : Composite) : Word := crcRx ++ c

end Sys2Proof.Machine
end

