-- ==== Sys2Proof/Machine/Flags.lean ====
section
/-! DEFINITION. What plays the part of flags: the verdict `valid` of an angle sample (spec/10_state.md rule R21,
spec/41_angle_crc.md rules R92, R97) and the two command states (spec/43_commands.md rules R138, R140). -/

namespace Sys2Proof.Machine

/-- `valid(c, crc_rx) = (crc8_angle(c) = crc_rx)` (R97). -/
def sampleValid (src : CrcSliceSource) (c : Composite) (crcRx : Byte) : Bool := decide (crc8Angle src c = crcRx)

/-- AngleSample (R11, R21). -/
structure AngleSample where
  rawAngle : BitVec 21
  status   : BitVec 3
  crc      : Byte
  valid    : Bool
  deriving DecidableEq, Repr

/-- rawAngle = RSP_VAL[23:3], status = RSP_VAL[2:0], crc = RSP_VAL[31:24] (R92). -/
def AngleSample.ofWord (val : Word) (valid : Bool) : AngleSample where
  rawAngle := val.extractLsb' 3 21
  status   := val.extractLsb' 0 3
  crc      := val.extractLsb' 24 8
  valid    := valid

/-- The sample an RDANGLE response carries (R21): Ok means valid, ChecksumMismatch means not valid; no other error
carries one. -/
def Rsp.angleSample : Rsp → Option AngleSample
  | .ok val => some (AngleSample.ofWord val true)
  | .err (.checksumMismatch sample) => some (AngleSample.ofWord sample false)
  | .err (.transport _) => none
  | .err .invalidArgument => none
  | .err .unexpectedAcknowledgement => none
  | .err .decodeFailure => none
  | .err .illegalOperation => none
  | .absent => none

/-- Is this the answer of an accepted command: the exchange succeeded and rx = 0x55 (R142)? -/
def Reply.isAck : Reply → Bool
  | .ok rx => decide (rx = Config.ackByte)
  | .fail _ => false

/-- A command state when the answer to its frame comes (R138, R140): Sent goes to Acknowledged or Failed, no other value
moves. -/
def CmdState.answered (c : CmdState) (r : Reply) : CmdState :=
  match c with
  | .sent => if r.isAck then .acknowledged else .failed
  | .idle => .idle
  | .acknowledged => .acknowledged
  | .failed => .failed

/-- The encoding of a command state on its port (R25): Idle 0, Sent 1, Acknowledged 2, Failed 3. -/
def CmdState.code : CmdState → BitVec 2
  | .idle => 0
  | .sent => 1
  | .acknowledged => 2
  | .failed => 3

end Sys2Proof.Machine
end

