-- ==== Sys2Proof/Machine/Memory.lean ====
section
/-! DEFINITION. The device register array DEV (spec/20_memory.md rules R35, R50): reading and writing one byte, and the
canonical form. One byte is the only access width (R42), so there is no wider access and no byte order here. -/

namespace Sys2Proof.Machine

/-- The byte register `a` is known to hold, if any. -/
def Memory.read : Memory → Nat → Option Byte
  | [], _ => none
  | (k, b) :: m, a => if k = a then some b else Memory.read m a

/-- `DEV[a] <- b`, keeping the addresses rising. -/
def Memory.write : Memory → Nat → Byte → Memory
  | [], a, b => [(a, b)]
  | (k, c) :: m, a, b =>
    if a < k then (a, b) :: (k, c) :: m
    else if a = k then (a, b) :: m
    else (k, c) :: Memory.write m a b

/-- The canonical form: addresses strictly rising, each in 0x000 to ADDR_MAX (R35). An unlisted register has no value, so
no entry can equal one. -/
abbrev Memory.wf (m : Memory) : Prop :=
  m.Pairwise (fun x y => x.1 < y.1) ∧ ∀ x ∈ m, x.1 ≤ 0x1FF

/-- R35, R37: the addresses of the device register space. -/
def addrOk (addr : Addr) : Bool := decide (addr ≤ Config.addrMax)

end Sys2Proof.Machine
end

