-- ==== Sys2Proof/Machine/Operands.lean ====
section
/-! DEFINITION. The operand forms and the codec's arithmetic: bitfields (spec/30_encoding.md rules R60 to R62), the range
checks (rule R71), field assembly (rules R63 to R67) and the enumerated field values (rule R70). -/

namespace Sys2Proof.Machine

/-- A bitfield of one register byte: mask and shift (R60); its register's address is a parameter. -/
structure Bitfield where
  mask  : Byte
  shift : Nat
  deriving DecidableEq, Repr

/-- `extract(b, mask, shift) = (b & mask) >> shift` (R60). -/
def Bitfield.extract (f : Bitfield) (b : Byte) : Byte := (b &&& f.mask) >>> f.shift

/-- `(v << shift) & mask`: a field value in its place (R60). -/
def Bitfield.place (f : Bitfield) (v : Byte) : Byte := (v <<< f.shift) &&& f.mask

/-- `(old & ~mask) | newBits`: the computation of readModifyWrite, literal (R79, R80). -/
def rmwByte (old mask newBits : Byte) : Byte := (old &&& ~~~mask) ||| newBits

/-- `insert(b, mask, shift, v) = (b & ~mask) | ((v << shift) & mask)` (R60). -/
def Bitfield.insert (f : Bitfield) (b v : Byte) : Byte := rmwByte b f.mask (f.place v)

-- The bitfield table (R62).

def fieldUserId : Bitfield := { mask := 0xFF, shift := 0 }
def fieldResHi  : Bitfield := { mask := 0xFF, shift := 0 }
def fieldResLo  : Bitfield := { mask := 0xFC, shift := 2 }
def fieldAbzOff : Bitfield := { mask := 0x02, shift := 1 }
def fieldAbSwap : Bitfield := { mask := 0x01, shift := 0 }
def fieldZposHi : Bitfield := { mask := 0xFF, shift := 0 }
def fieldZposLo : Bitfield := { mask := 0xF0, shift := 4 }
def fieldZEdge  : Bitfield := { mask := 0x08, shift := 3 }
def fieldZWidth : Bitfield := { mask := 0x07, shift := 0 }
def fieldZPhase : Bitfield := { mask := 0xC0, shift := 6 }
def fieldAbLead : Bitfield := { mask := 0x08, shift := 3 }
def fieldAngHi  : Bitfield := { mask := 0xFF, shift := 0 }
def fieldAngMid : Bitfield := { mask := 0xFF, shift := 0 }
def fieldAngLo  : Bitfield := { mask := 0xF8, shift := 3 }
def fieldStatus : Bitfield := { mask := 0x07, shift := 0 }
def fieldAngCrc : Bitfield := { mask := 0xFF, shift := 0 }

/-- SUID: "v > 255" is refused (R71, R107). -/
def userIdOk (v : Word) : Bool := decide (v.toNat ≤ 255)

/-- SRES: "v = 0 or v > 16384" is refused (R71, R109); the whole 32-bit value is compared. -/
def pprOk (v : Word) : Bool := decide (1 ≤ v.toNat) && decide (v.toNat ≤ 16384)

/-- SZEDGE and SDIR: "v > 1" is refused (R71). -/
def bitOk (v : Word) : Bool := decide (v.toNat ≤ 1)

/-- SZWID: "v > 7" is refused (R71). -/
def widthOk (v : Word) : Bool := decide (v.toNat ≤ 7)

/-- SZPH: "v > 3" is refused (R71). -/
def phaseOk (v : Word) : Bool := decide (v.toNat ≤ 3)

/-- S = 360 * 2^DEG_FRAC (R67). -/
def degScale (degFrac : Nat) : Nat := 360 * 2 ^ degFrac

/-- SZPOS: "D < 0 or D > S" is refused; D is signed (R67, R71). -/
def degOk (degFrac : Nat) (d : Word) : Bool := decide (0 ≤ d.toInt) && decide (d.toInt ≤ (degScale degFrac : Int))

/-- `z = floor((D * 4095 + S / 2) / S)` on a D in 0 to S (R67). -/
def degToCode (degFrac : Nat) (d : Word) : BitVec 12 :=
  BitVec.ofNat 12 ((d.toInt.toNat * 4095 + degScale degFrac / 2) / degScale degFrac)

/-- `s = ppr - 1`, 14 bits (R63). -/
def pprStored (v : Word) : BitVec 14 := (v - 1).setWidth 14

/-- WDH = s[13:6] (R63). -/
def resHigh (s : BitVec 14) : Byte := s.extractLsb' 6 8

/-- WDL = (s[5:0] << 2) | (old & 0x03) (R63). -/
def resLow (s : BitVec 14) (old : Byte) : Byte := fieldResLo.insert old ((s.extractLsb' 0 6).setWidth 8)

/-- `s = {H[7:0], L[7:2]}`, 14 bits (R64). -/
def resUnpack (h l : Byte) : BitVec 14 := (h.setWidth 14 <<< 6) ||| (fieldResLo.extract l).setWidth 14

/-- `ppr = s + 1` (R64), in the 32 bits of RSP_VAL. -/
def pprOf (h l : Byte) : Word := (resUnpack h l).setWidth 32 + 1

/-- WDH = z[11:4] (R65). -/
def zposHigh (z : BitVec 12) : Byte := z.extractLsb' 4 8

/-- WDL = (z[3:0] << 4) | (old & 0x0F) (R65). -/
def zposLow (z : BitVec 12) (old : Byte) : Byte := fieldZposLo.insert old ((z.extractLsb' 0 4).setWidth 8)

/-- `z = {H[7:0], L[7:4]}`, 12 bits (R66). -/
def zposUnpack (h l : Byte) : BitVec 12 := (h.setWidth 12 <<< 4) ||| (fieldZposLo.extract l).setWidth 12

/-- SABZ, SSWAP: "any nonzero input → bit set" (R111, R113). -/
def nonzeroBit (v : Word) : Byte := if v = 0 then 0 else 1

/-- The low byte of an argument already checked to fit its field. -/
def argByte (v : Word) : Byte := v.extractLsb' 0 8

/-- Index pulse width (R70): 2^n LSB, or a fixed width in degrees. -/
inductive PulseWidth where
  | lsb (n : Nat)
  | degrees (d : Nat)
  deriving DecidableEq, Repr

/-- The meaning of a Z_WIDTH code (R70). For the host: no operation reads it. -/
def zWidthMeaning (code : BitVec 3) : PulseWidth :=
  if code.toNat ≤ 4 then .lsb (2 ^ code.toNat) else .degrees (60 * (code.toNat - 4))

/-- Index edge polarity at 0° (R70). -/
inductive EdgePolarity where
  | rising
  | falling
  deriving DecidableEq, Repr

/-- The meaning of the Z_EDGE bit (R70). -/
def zEdgeMeaning (bit : Bool) : EdgePolarity := if bit then .falling else .rising

/-- AB lead direction, counter-clockwise (R70). -/
inductive AbLead where
  | bLeadsA
  | aLeadsB
  deriving DecidableEq, Repr

/-- The meaning of the AB_LEAD bit (R33, R70). -/
def abLeadMeaning (bit : Bool) : AbLead := if bit then .aLeadsB else .bLeadsA

end Sys2Proof.Machine
end

