-- ==== Sys2Proof/Machine/Ops.lean ====
section
/-! DEFINITION. The operations every meaning is written with: issuing an exchange and its answer (spec/40_frame_and_codec.md
rule R76), the environment's side of it (spec/20_memory.md rule R50), ending an operation with a value or with an error
(spec/60_exceptions.md rule R150), and walking an operation's straight line of exchanges (spec/10_state.md rule R15). -/

namespace Sys2Proof.Machine

-- The end of an operation.

/-- The end of an operation (R150): RSP is written, SEQ is Done. The working registers have "no value from here on", and the
model clears them (R13 "a model may clear them"; DESIGN CHOICE, assumption 4). STEP and the request latch keep what they
hold (R149, R16, assumption 19). -/
def State.ended (s : State) (r : Rsp) : State :=
  { s with
    rsp := r, seq := .done, reply := none,
    tmp := 0, wdh := 0, wdl := 0, composite := 0, crcRx := 0, crc := 0 }

/-- TAKING AN EXCEPTION, the one mechanism: `raise E(info)` (R150). Control goes back to the host; nothing is saved. -/
def State.raise (s : State) (e : OpError) : State := s.ended (.err e)

/-- `return v`: the operation ends with RSP <- Ok(v) (R9, R150). There is no handler, so there is no return from an
exception beside it (R159): the next accepted request clears RSP. -/
def State.returnOk (s : State) (v : Word) : State := s.ended (.ok v)

-- RPC's side of an exchange.

/-- The first line of `Xchg(cmd, addr, tx)` (R76): XOUT <- {cmd, addr, tx}, SEQ <- WaitX. -/
def State.issue (s : State) (cmd : Cmd) (addr : Addr) (tx : Byte) : State :=
  { s with xout := some (packFrame cmd addr tx), seq := .waitX, reply := none }

/-- The exchange of `MemRead(addr, 1)`: tx = 0x00 (R9, R55). -/
def State.memRead (s : State) (addr : Addr) : State := s.issue s.build.opcRd addr 0

/-- The exchange of `MemWrite(addr, 1, v)` (R9, R55). -/
def State.memWrite (s : State) (addr : Addr) (v : Byte) : State := s.issue s.build.opcWr addr v

/-- STEP after an exchange response: an Ok is counted, a Fail is not (R15, R76). -/
def Reply.count (r : Reply) (step : BitVec 3) : BitVec 3 :=
  match r with
  | .ok _ => step + 1
  | .fail _ => step

/-- The exchange response (R26, R76): XOUT is emptied, SEQ <- Run, STEP counts the exchange if it is Ok, and the rule
that asked continues with the answer. -/
def State.respond (s : State) (r : Reply) : State :=
  { s with
    xout := none, seq := .run, reply := some r, stepCount := r.count s.stepCount }

-- The environment's side of an exchange.

/-- What the ideal device stores (R50): the byte of a WR to one of its registers, nothing for any other frame. -/
def State.deviceStores (s : State) (cmd : Cmd) (addr : Addr) (tx : Byte) : State :=
  if cmd = s.build.opcWr ∧ addrOk addr = true then { s with dev := Memory.write s.dev addr.toNat tx } else s

/-- A device that need not be ideal acts on a frame (R152): a RD changes nothing (R45) and a WR is stored. What ZERO and PROG
change is open (R145, U12 "any value on later reads of any register"), and so is what any other frame would do, so after one
of these no register is known (assumption 6). What a WR to 0x200 to 0xFFF does in such a device the source does not say (C5);
that it leaves DEV as it was is a DESIGN CHOICE (assumption 24). -/
def State.deviceActs (s : State) (cmd : Cmd) (addr : Addr) (tx : Byte) : State :=
  if cmd = s.build.opcRd then s
  else if cmd = s.build.opcWr then s.deviceStores cmd addr tx
  else { s with dev := [] }

/-- The answer of the ideal device (R50). A register nothing has written answers a free byte (R34, U5, assumption 5); a
read or write of an address that is none of DEV's falls under "otherwise" (assumption 7). -/
def State.idealReply (s : State) (cmd : Cmd) (addr : Addr) (tx : Byte) : Reply :=
  if cmd = s.build.opcRd ∧ addrOk addr = true then
    match Memory.read s.dev addr.toNat with
    | some b => .ok b
    | none => .ok (Config.freeByte s.draws)
  else if cmd = s.build.opcWr ∧ addrOk addr = true then .ok tx
  else if cmd = s.build.opcZero then .ok Config.ackByte
  else if cmd = s.build.opcProg then .ok Config.ackByte
  else .fail 0

/-- The free byte of `idealReply`, once drawn, is not drawn again. -/
def State.idealDraw (s : State) (cmd : Cmd) (addr : Addr) : State :=
  if cmd = s.build.opcRd ∧ addrOk addr = true ∧ Memory.read s.dev addr.toNat = none then
    { s with draws := s.draws + 1 }
  else s

/-- The answer on the wires (R26): on XRSP_FAIL the byte is not looked at (R151); the payload has TERR_W bits and is
copied bit for bit (R76 b, R149, assumption 16). -/
def State.wireReply (s : State) : Reply :=
  if s.pins.xrspFail then .fail (s.pins.xrspInfo % 2 ^ s.build.terrW) else .ok s.pins.xrspData

/-- The answer of this step, if there is one: the ideal device's, or what the wires say. -/
def State.answer (s : State) (cmd : Cmd) (addr : Addr) (tx : Byte) : Reply :=
  match s.pins.device with
  | .ideal => s.idealReply cmd addr tx
  | .acts => s.wireReply
  | .ignores => s.wireReply

/-- What the environment does with the frame it answers: the ideal device stores (R50), or the environment chooses
whether the device acts on it (R152). -/
def State.served (s : State) (cmd : Cmd) (addr : Addr) (tx : Byte) : State :=
  match s.pins.device with
  | .ideal => (s.idealDraw cmd addr).deviceStores cmd addr tx
  | .acts => s.deviceActs cmd addr tx
  | .ignores => s

/-- One exchange seen from SEQ = WaitX (R26, R76): nothing changes until XRSP_VALID = 1 (R183: without an answer RPC stays
in WaitX for ever), then the environment answers: as the ideal device does, or with what the wires say, the device having
acted on the frame or not (R152). -/
def State.exchange (s : State) (cmd : Cmd) (addr : Addr) (tx : Byte) : State :=
  if s.pins.xrspValid then (s.served cmd addr tx).respond (s.answer cmd addr tx) else s

-- An operation's straight line.

/-- "rejected before any register access, no partial side effects" (R71, R153): the argument check of an operation. -/
def State.guardArg (s : State) (ok : Bool) (k : Result) : Result :=
  if ok then k else .next (s.raise .invalidArgument)

/-- One move of an operation between exchanges (SEQ = Run). With no answer in hand: at STEP = 0 the operation starts, and
later `resume` is its move (the verdict of RDANGLE, the end of PROG's wait). With a failed answer the operation ends with
TransportError, whatever the exchange (R105, R151). With the byte of exchange k in hand, STEP = k, the k-th of `rest`
continues (R15); any other point is none of the line's (assumption 17). -/
def State.sequence (s : State) (start : Result) (rest : List (Byte → Result)) (resume : Result := .fault .noSuchStep) :
    Result :=
  match s.reply with
  | some (.fail info) => .next (s.raise (.transport info))
  | some (.ok b) =>
    match s.stepCount.toNat with
    | 0 => .fault .noSuchStep
    | k + 1 =>
      match rest[k]? with
      | some cont => cont b
      | none => .fault .noSuchStep
  | none => if s.stepCount = 0 then start else resume

-- The four shapes of the register codec (R105).

/-- A getter of one register: read, then return what `value` makes of the byte. -/
def State.readOne (s : State) (addr : Addr) (value : Byte → Word) : Result :=
  s.sequence (.next (s.memRead addr)) [fun b => .next (s.returnOk (value b))]

/-- A getter of a pair: the high register first (R125), its byte in TMP while the low register is read (R17). -/
def State.readPair (s : State) (addrH addrL : Addr) (value : Byte → Byte → Word) : Result :=
  s.sequence (.next (s.memRead addrH))
    [fun h => .next (({ s with tmp := h } : State).memRead addrL),
     fun l => .next (s.returnOk (value s.tmp l))]

/-- Check, then write one whole register without reading it (R83). -/
def State.writeOne (s : State) (ok : Bool) (addr : Addr) (v : Byte) : Result :=
  s.sequence (s.guardArg ok (.next (s.memWrite addr v))) [fun _ => .next (s.returnOk 0)]

/-- Check, read into TMP, compute WDL, write it back: the mandatory pattern of a shared register (R79, R83, R105). -/
def State.readModifyWrite (s : State) (ok : Bool) (addr : Addr) (newByte : Byte → Byte) : Result :=
  s.sequence (s.guardArg ok (.next (s.memRead addr)))
    [fun b => .next (({ s with tmp := b, wdl := newByte b } : State).memWrite addr (newByte b)),
     fun _ => .next (s.returnOk 0)]

/-- A two-register setter (R124): high byte, then low byte, the low register read before it is written, in the order
RMW2_ORDER names. -/
def State.writePair (s : State) (ok : Bool) (addrH addrL : Addr) (high : Byte) (low : Byte → Byte) : Result :=
  match s.build.rmw2Order with
  | .readFirst =>
    s.sequence (s.guardArg ok (.next (s.memRead addrL)))
      [fun old => .next (({ s with tmp := old, wdh := high, wdl := low old } : State).memWrite addrH high),
       fun _ => .next (s.memWrite addrL s.wdl),
       fun _ => .next (s.returnOk 0)]
  | .writeHighFirst =>
    s.sequence (s.guardArg ok (.next (({ s with wdh := high } : State).memWrite addrH high)))
      [fun _ => .next (s.memRead addrL),
       fun old => .next (({ s with tmp := old, wdl := low old } : State).memWrite addrL (low old)),
       fun _ => .next (s.returnOk 0)]

end Sys2Proof.Machine
end

