-- ==== Sys2Proof/Machine/Angle.lean ====
section
/-! DEFINITION. The meaning of RDANGLE: spec/41_angle_crc.md rules R90 to R93, R97. -/

namespace Sys2Proof.Machine

/-- Byte i of the frame goes into COMPOSITE and the next register is read (R90, R91). -/
def State.angleByte (s : State) (i : Nat) (b : Byte) (next : Addr) : Result :=
  .next (({ s with composite := orByte s.composite i b } : State).memRead next)

/-- The fourth byte is the transmitted CRC; the validator runs on the composite (R90, R97). RPC stays in Run: the verdict is
its next move (assumption 9). -/
def State.angleCrc (s : State) (b : Byte) : Result :=
  .next { s with crcRx := b, crc := crc8Angle s.build.crcSliceSource s.composite, reply := none }

/-- The verdict (R90): the sample, as the value of an Ok or inside a ChecksumMismatch. -/
def State.angleVerdict (s : State) : Result :=
  if s.crc = s.crcRx then .next (s.returnOk (sampleWord s.crcRx s.composite))
  else .next (s.raise (.checksumMismatch (sampleWord s.crcRx s.composite)))

/-- RDANGLE (R90): four reads in increasing address order, then the verdict. -/
def execRdangle (s : State) : Result :=
  s.sequence
    (.next (({ s with composite := 0 } : State).memRead s.build.addrAngle))
    [fun b => s.angleByte 0 b (s.build.addrAngle + 1),
     fun b => s.angleByte 1 b (s.build.addrAngle + 2),
     fun b => s.angleByte 2 b (s.build.addrAngle + 3),
     fun b => s.angleCrc b]
    (if s.stepCount = 4 then s.angleVerdict else .fault .noSuchStep)

end Sys2Proof.Machine
end

