-- ==== Sys2Proof/Machine/Codec.lean ====
section
/-! DEFINITION. The meanings of the register codec operations RDREG, WRREG and RMW: spec/40_frame_and_codec.md rules R77
to R81. -/

namespace Sys2Proof.Machine

/-- RDREG (R77). -/
def execRdreg (addr : Addr) (s : State) : Result :=
  s.sequence (s.guardArg (addrOk addr) (.next (s.memRead addr))) [fun b => .next (s.returnOk (b.setWidth 32))]

/-- WRREG (R78). -/
def execWrreg (addr : Addr) (data : Byte) (s : State) : Result := s.writeOne (addrOk addr) addr data

/-- RMW (R79); `newBits` outside `mask` is not masked (R80). -/
def execRmw (addr : Addr) (mask newBits : Byte) (s : State) : Result :=
  s.readModifyWrite (addrOk addr) addr (fun b => rmwByte b mask newBits)

end Sys2Proof.Machine
end

