-- ==== Sys2Proof/Machine/Commands.lean ====
section
/-! DEFINITION. The meanings of the command operations ZERO, PROG and BURST: spec/43_commands.md rules R136 to R143. The
answer moves the command state while the frame is in flight (Machine/Wire.lean): "Sent holds exactly while the one exchange
is outstanding" (R138, assumption 13). -/

namespace Sys2Proof.Machine

/-- ZERO (R137). -/
def execZero (s : State) : Result :=
  s.sequence
    (.next (({ s with zeroState := .sent } : State).issue s.build.opcZero s.build.cmdAddr s.build.cmdData))
    [fun rx => if rx = Config.ackByte then .next (s.returnOk 0) else .next (s.raise .unexpectedAcknowledgement)]

/-- PROG (R139): after the acknowledgement SEQ is Settle, and the move after the wait ends the operation (assumption 15). -/
def execProg (s : State) : Result :=
  s.sequence
    (.next (({ s with progState := .sent } : State).issue s.build.opcProg s.build.cmdAddr s.build.cmdData))
    [fun rx =>
      if rx = Config.ackByte then .next { s with seq := .settle, reply := none }
      else .next (s.raise .unexpectedAcknowledgement)]
    (if s.stepCount = 1 then .next (s.returnOk 0) else .fault .noSuchStep)

/-- BURST (R143): refused, no exchange. -/
def execBurst (s : State) : Result := .next (s.raise .illegalOperation)

end Sys2Proof.Machine
end

