-- ==== Sys2Proof/Machine/Params.lean ====
section
/-! DEFINITION. The meanings of the nine pairs of parameter accessors: spec/42_param_accessors.md rules R105 to R128. -/

namespace Sys2Proof.Machine

/-- GUID (R106). -/
def execGuid (s : State) : Result := s.readOne s.build.addrUserId (fun b => (fieldUserId.extract b).setWidth 32)

/-- SUID (R107): the whole register, so no read. -/
def execSuid (v : Word) (s : State) : Result := s.writeOne (userIdOk v) s.build.addrUserId (argByte v)

/-- GRES (R108). -/
def execGres (s : State) : Result := s.readPair s.build.addrAbzResH s.build.addrAbzResL pprOf

/-- SRES (R109). -/
def execSres (v : Word) (s : State) : Result :=
  s.writePair (pprOk v) s.build.addrAbzResH s.build.addrAbzResL (resHigh (pprStored v)) (resLow (pprStored v))

/-- GABZ (R110). -/
def execGabz (s : State) : Result := s.readOne s.build.addrAbzResL (fun b => (fieldAbzOff.extract b).setWidth 32)

/-- SABZ (R111): every v is accepted, any nonzero v sets the bit. -/
def execSabz (v : Word) (s : State) : Result :=
  s.readModifyWrite true s.build.addrAbzResL (fun b => fieldAbzOff.insert b (nonzeroBit v))

/-- GSWAP (R112). -/
def execGswap (s : State) : Result := s.readOne s.build.addrAbzResL (fun b => (fieldAbSwap.extract b).setWidth 32)

/-- SSWAP (R113): every v is accepted, any nonzero v sets the bit. -/
def execSswap (v : Word) (s : State) : Result :=
  s.readModifyWrite true s.build.addrAbzResL (fun b => fieldAbSwap.insert b (nonzeroBit v))

/-- GZPOS (R114): the 12-bit code. -/
def execGzpos (s : State) : Result :=
  s.readPair s.build.addrZeroH s.build.addrZeroL (fun h l => (zposUnpack h l).setWidth 32)

/-- SZPOS (R115). -/
def execSzpos (d : Word) (s : State) : Result :=
  s.writePair (degOk s.build.degFrac d) s.build.addrZeroH s.build.addrZeroL
    (zposHigh (degToCode s.build.degFrac d)) (zposLow (degToCode s.build.degFrac d))

/-- GZEDGE (R116). -/
def execGzedge (s : State) : Result := s.readOne s.build.addrZeroL (fun b => (fieldZEdge.extract b).setWidth 32)

/-- SZEDGE (R117). -/
def execSzedge (v : Word) (s : State) : Result :=
  s.readModifyWrite (bitOk v) s.build.addrZeroL (fun b => fieldZEdge.insert b (argByte v))

/-- GZWID (R118). -/
def execGzwid (s : State) : Result := s.readOne s.build.addrZeroL (fun b => (fieldZWidth.extract b).setWidth 32)

/-- SZWID (R119). -/
def execSzwid (v : Word) (s : State) : Result :=
  s.readModifyWrite (widthOk v) s.build.addrZeroL (fun b => fieldZWidth.insert b (argByte v))

/-- GZPH (R120). -/
def execGzph (s : State) : Result := s.readOne s.build.addrUvwCfg (fun b => (fieldZPhase.extract b).setWidth 32)

/-- SZPH (R121). -/
def execSzph (v : Word) (s : State) : Result :=
  s.readModifyWrite (phaseOk v) s.build.addrUvwCfg (fun b => fieldZPhase.insert b (argByte v))

/-- GDIR (R122), with the arm DecodeFailure the spec keeps and calls dead. -/
def execGdir (s : State) : Result :=
  s.sequence (.next (s.memRead s.build.addrHyst))
    [fun b =>
      if b &&& fieldAbLead.mask = 0x00 then .next (s.returnOk 0)
      else if b &&& fieldAbLead.mask = 0x08 then .next (s.returnOk 1)
      else .next (s.raise .decodeFailure)]

/-- SDIR (R123). -/
def execSdir (v : Word) (s : State) : Result :=
  s.readModifyWrite (bitOk v) s.build.addrHyst (fun b => fieldAbLead.insert b (argByte v))

end Sys2Proof.Machine
end

