-- ==== Sys2Proof/Machine/Wire.lean ====
section
/-! DEFINITION. The meanings of the five wire commands: one exchange each, run while its frame is in flight (SEQ = WaitX).
spec/30_encoding.md rules R53 to R56, spec/40_frame_and_codec.md rule R76, spec/43_commands.md rules R138, R140. -/

namespace Sys2Proof.Machine

/-- RD: rx is the register's byte (R55). -/
def execWireRd (addr : Addr) (tx : Byte) (s : State) : Result := .next (s.exchange s.build.opcRd addr tx)

/-- WR: the byte to store (R55). -/
def execWireWr (addr : Addr) (tx : Byte) (s : State) : Result := .next (s.exchange s.build.opcWr addr tx)

/-- ZERO: rx is the acknowledgement (R55); its answer moves ZERO_STATE out of Sent (R138). -/
def execWireZero (addr : Addr) (tx : Byte) (s : State) : Result :=
  .next { s.exchange s.build.opcZero addr tx with
    zeroState := if s.pins.xrspValid then s.zeroState.answered (s.answer s.build.opcZero addr tx) else s.zeroState }

/-- PROG: rx is the acknowledgement (R55); its answer moves PROG_STATE out of Sent (R140). -/
def execWireProg (addr : Addr) (tx : Byte) (s : State) : Result :=
  .next { s.exchange s.build.opcProg addr tx with
    progState := if s.pins.xrspValid then s.progState.answered (s.answer s.build.opcProg addr tx) else s.progState }

/-- BURST: a frame RPC never sends (R55, R143). Were one in flight, it is an exchange like any other and RPC attaches no
meaning to its answer; the ideal device fails it (R50 "otherwise", assumption 14). -/
def execWireBurst (addr : Addr) (tx : Byte) (s : State) : Result := .next (s.exchange s.build.opcBurst addr tx)

end Sys2Proof.Machine
end

