-- ==== Sys2Proof/Machine/Dispatch.lean ====
section
/-! DEFINITION. One arm per instruction: the dispatch of an instruction to its meaning. -/

namespace Sys2Proof.Machine

def exec (i : Instr) (s : State) : Host.Outcome State Fault Refusal :=
  match i with
  | .wireRd addr tx => Sys2Proof.Machine.execWireRd addr tx s
  | .wireWr addr tx => Sys2Proof.Machine.execWireWr addr tx s
  | .wireZero addr tx => Sys2Proof.Machine.execWireZero addr tx s
  | .wireProg addr tx => Sys2Proof.Machine.execWireProg addr tx s
  | .wireBurst addr tx => Sys2Proof.Machine.execWireBurst addr tx s
  | .rdreg addr => Sys2Proof.Machine.execRdreg addr s
  | .wrreg addr data => Sys2Proof.Machine.execWrreg addr data s
  | .rmw addr mask newBits => Sys2Proof.Machine.execRmw addr mask newBits s
  | .rdangle => Sys2Proof.Machine.execRdangle s
  | .guid => Sys2Proof.Machine.execGuid s
  | .suid v => Sys2Proof.Machine.execSuid v s
  | .gres => Sys2Proof.Machine.execGres s
  | .sres v => Sys2Proof.Machine.execSres v s
  | .gabz => Sys2Proof.Machine.execGabz s
  | .sabz v => Sys2Proof.Machine.execSabz v s
  | .gswap => Sys2Proof.Machine.execGswap s
  | .sswap v => Sys2Proof.Machine.execSswap v s
  | .gzpos => Sys2Proof.Machine.execGzpos s
  | .szpos d => Sys2Proof.Machine.execSzpos d s
  | .gzedge => Sys2Proof.Machine.execGzedge s
  | .szedge v => Sys2Proof.Machine.execSzedge v s
  | .gzwid => Sys2Proof.Machine.execGzwid s
  | .szwid v => Sys2Proof.Machine.execSzwid v s
  | .gzph => Sys2Proof.Machine.execGzph s
  | .szph v => Sys2Proof.Machine.execSzph v s
  | .gdir => Sys2Proof.Machine.execGdir s
  | .sdir v => Sys2Proof.Machine.execSdir v s
  | .zero => Sys2Proof.Machine.execZero s
  | .prog => Sys2Proof.Machine.execProg s
  | .burst => Sys2Proof.Machine.execBurst s

end Sys2Proof.Machine
end

