-- ==== Sys2Proof/Machine/Sequencer.lean ====
section
/-! DEFINITION. What happens around an instruction: who moves (spec/10_state.md rules R14, R25, R26), reset
(spec/70_reset_and_hazards.md rules R167 to R171), accepting a request (rule R25), the settle wait (spec/43_commands.md
rule R141), the pins of the next step, and the output ports (rules R25, R26, R59). -/

namespace Sys2Proof.Machine

/-- RPC's own registers at their reset values (R168; those to which R34 gives no value at 0, assumption 4); the build, the
device and the environment are not RPC's (R171, assumption 21). -/
def State.resetRpc (s : State) : State :=
  { s with
    seq := .idle, stepCount := 0, reqOp := 0, reqArg := 0,
    tmp := 0, wdh := 0, wdl := 0, composite := 0, crcRx := 0, crc := 0,
    rsp := .absent, zeroState := .idle, progState := .idle, xout := none, reply := none }

/-- The device's side of a reset (R169): whether it acted on a frame in flight is unknown, the environment chooses, and the
ideal device acts as R50 says (assumption 11). -/
def State.abandonFrame (s : State) : State :=
  match s.seq, s.xout with
  | .waitX, some f =>
    match s.pins.device with
    | .ideal => s.deviceStores (frameCmd f) (frameAddr f) (frameTx f)
    | .acts => s.deviceActs (frameCmd f) (frameAddr f) (frameTx f)
    | .ignores => s
  | _, _ => s

/-- A request is accepted (R25): REQ_OP and REQ_ARG are latched, STEP <- 0, SEQ <- Run, RSP is None until the end. -/
def State.accept (s : State) (w : ReqWord) : State :=
  { s with
    reqOp := requestOp w, reqArg := requestArg w, stepCount := 0, seq := .run, rsp := .absent, reply := none }

/-- The host's turn, BUSY = 0 (R25). -/
def State.hostMoves (s : State) : State := if s.pins.reqValid then s.accept s.pins.req else s

/-- SEQ = Settle (R141): only the settle-elapsed event ends the wait; no frame is sent, every other input is ignored. -/
def State.settleMoves (s : State) : State := if s.pins.settleElapsed then { s with seq := .run } else s

/-- What answers when XOUT is empty: the wires, or the ideal device's "otherwise" (R50). -/
def State.noFrameReply (s : State) : Reply :=
  match s.pins.device with
  | .ideal => .fail 0
  | .acts => s.wireReply
  | .ignores => s.wireReply

/-- SEQ = WaitX with XOUT empty, which R23 excludes: there is no frame for a device to act on, and an exchange response is
taken as R26 says of every one (DESIGN CHOICE, assumption 14). -/
def State.noFrameMoves (s : State) : State := if s.pins.xrspValid then s.respond s.noFrameReply else s

/-- The pins of the next step come from the schedule; when it has run out they are quiet (DESIGN CHOICE,
assumption 10). -/
def State.advance (s : State) : State :=
  match s.env with
  | [] => { s with pins := {} }
  | p :: ps => { s with pins := p, env := ps }

/-- What moves in this step. -/
inductive Turn where
  | reset                        -- RESET is asserted (R167)
  | host                         -- SEQ = Idle or Done (R14)
  | instr (i : Instr)            -- SEQ = Run with an operation of the table, or SEQ = WaitX with a frame of the table
  | illegal                      -- SEQ = Run with an op code outside the table (R157)
  | strange (f : Frame)          -- SEQ = WaitX with a command code that is none of the five (R56: never sent)
  | noFrame                      -- SEQ = WaitX with XOUT empty
  | settle                       -- SEQ = Settle
  deriving DecidableEq, Repr

/-- FETCH: the latched request is decoded while SEQ = Run, the frame in XOUT while SEQ = WaitX. RESET comes first
(assumptions 8, 11). -/
def State.turn (s : State) : Turn :=
  if s.pins.reset then .reset
  else match s.seq with
    | .idle => .host
    | .done => .host
    | .settle => .settle
    | .run =>
      match decodeOp s.reqOp s.reqArg with
      | .ok i => .instr i
      | .error _ => .illegal
    | .waitX =>
      match s.xout with
      | some f =>
        match decodeFrame s.build f with
        | .ok i => .instr i
        | .error _ => .strange f
      | none => .noFrame

/-- A next state, with the pins of the next step. -/
def Result.advanced : Result → Result
  | .next t => .next t.advance
  | .fault r => .fault r
  | .refused r => .refused r

/-- The pins that answer an exchange at once, as the ideal device does. -/
def Pins.answering : Pins := { xrspValid := true, device := .ideal }

/-- A request latched, or a frame in flight with its answer at hand, so that the next step runs exactly it (assumption 8). -/
def State.loadWord (s : State) (nbits w : Nat) : State :=
  if nbits ≤ 24 then
    { s with xout := some (BitVec.ofNat 24 w), seq := .waitX, reply := none, pins := Pins.answering }
  else { s.accept (BitVec.ofNat 40 w) with pins := {} }

-- The output ports.

/-- BUSY: 1 while SEQ is Run, WaitX or Settle (R25). -/
def State.busy (s : State) : Bool :=
  match s.seq with
  | .run | .waitX | .settle => true
  | .idle | .done => false

/-- DONE: 1 while SEQ = Done (R25). -/
def State.doneFlag (s : State) : Bool :=
  match s.seq with
  | .done => true
  | .run | .waitX | .settle | .idle => false

/-- XREQ_VALID: 1 exactly while SEQ = WaitX (R26). -/
def State.xreqValid (s : State) : Bool :=
  match s.seq with
  | .waitX => true
  | .run | .settle | .idle | .done => false

/-- XREQ_FRAME: XOUT while SEQ = WaitX, no meaning at every other time (R26). -/
def State.xreqFrame (s : State) : Option Frame := if s.xreqValid then s.xout else none

/-- RSP_ERR, the error codes of R147. -/
def OpError.code : OpError → BitVec 3
  | .transport _ => 1
  | .invalidArgument => 2
  | .checksumMismatch _ => 3
  | .unexpectedAcknowledgement => 4
  | .decodeFailure => 5
  | .illegalOperation => 6

/-- RSP_VALID (R59): 1 once an operation has ended. -/
def Rsp.valid : Rsp → Bool
  | .absent => false
  | .ok _ => true
  | .err _ => true

/-- RSP_ERR (R59, R147): 0 is Ok; no meaning before an operation has ended. -/
def Rsp.errPort : Rsp → Option (BitVec 3)
  | .absent => none
  | .ok _ => some 0
  | .err e => some e.code

/-- RSP_INFO (R59): the TransportError payload, meaningful with no other response. -/
def Rsp.infoPort : Rsp → Option Nat
  | .err (.transport info) => some info
  | .err .invalidArgument => none
  | .err (.checksumMismatch _) => none
  | .err .unexpectedAcknowledgement => none
  | .err .decodeFailure => none
  | .err .illegalOperation => none
  | .ok _ => none
  | .absent => none

/-- RSP_VAL (R59): present when RSP_ERR = 0 and when it is ChecksumMismatch, with any other error it has no value. -/
def Rsp.valPort : Rsp → Option Word
  | .ok val => some val
  | .err (.checksumMismatch sample) => some sample
  | .err (.transport _) => none
  | .err .invalidArgument => none
  | .err .unexpectedAcknowledgement => none
  | .err .decodeFailure => none
  | .err .illegalOperation => none
  | .absent => none

end Sys2Proof.Machine
end

