-- ==== Sys2Proof/Machine/Step.lean ====
section
/-! DEFINITION. One step of the machine: whoever has the turn moves (spec/00_scope.md rule R6), then the pins of the next
step are in place. -/

namespace Sys2Proof.Machine

/-- One step: one move of one agent (R6; the grain is a DESIGN CHOICE, assumption 9). -/
def step (s : State) : Host.Outcome State Fault Refusal :=
  match s.turn with
  | .reset => .next s.abandonFrame.resetRpc.advance
  | .host => .next s.hostMoves.advance
  | .instr i => Result.advanced (exec i s)
  | .illegal => .next (s.raise .illegalOperation).advance
  | .strange f => .next (s.exchange (frameCmd f) (frameAddr f) (frameTx f)).advance
  | .noFrame => .next s.noFrameMoves.advance
  | .settle => .next s.settleMoves.advance

/-- The word where the next step fetches (assumption 8): a request in the request latch, a frame in XOUT. -/
def State.withFetchWord (s : State) (nbits w : Nat) : State := s.loadWord nbits w

end Sys2Proof.Machine
end

