-- ==== Sys2Proof/WellFormed.lean ====
section
/-! DEFINITION. Well-formed instructions: an operation whose request RPC does not refuse before any exchange
(spec/30_encoding.md rule R71), a wire command whose frame is one RPC sends (rule R55). Nothing in the machine calls
this check: an ill-formed instruction decodes, and RUNS with the outcome the spec gives it. -/

namespace Sys2Proof

/-- R71 for the operations, R55 for the wire commands. Every check has an ill-formed term in Tests/Slice0.lean. -/
def Instr.wellFormed (c : Config) : Instr → Bool
  | .wireRd addr tx => decide (addr ≤ Config.addrMax) && decide (tx = 0)
  | .wireWr addr _ => decide (addr ≤ Config.addrMax)
  | .wireZero addr tx => decide (addr = c.cmdAddr) && decide (tx = c.cmdData)
  | .wireProg addr tx => decide (addr = c.cmdAddr) && decide (tx = c.cmdData)
  | .wireBurst _ _ => false
  | .rdreg addr => decide (addr ≤ Config.addrMax)
  | .wrreg addr _ => decide (addr ≤ Config.addrMax)
  | .rmw addr _ _ => decide (addr ≤ Config.addrMax)
  | .rdangle => true
  | .guid => true
  | .suid v => decide (v.toNat ≤ 255)
  | .gres => true
  | .sres v => decide (1 ≤ v.toNat) && decide (v.toNat ≤ 16384)
  | .gabz => true
  | .sabz _ => true
  | .gswap => true
  | .sswap _ => true
  | .gzpos => true
  | .szpos d => decide (0 ≤ d.toInt) && decide (d.toInt ≤ 360 * 2 ^ c.degFrac)
  | .gzedge => true
  | .szedge v => decide (v.toNat ≤ 1)
  | .gzwid => true
  | .szwid v => decide (v.toNat ≤ 7)
  | .gzph => true
  | .szph v => decide (v.toNat ≤ 3)
  | .gdir => true
  | .sdir v => decide (v.toNat ≤ 1)
  | .zero => true
  | .prog => true
  | .burst => false

end Sys2Proof
end

