-- ==== Sys2Proof/Safety.lean ====
section
/-! DEFINITION. What a safe run is, in the terms the claims use: the exchange table of spec/20_memory.md rule R43, the
invariant of the state, runs under a schedule of pins, and the outcomes of one move written out field by field. -/

namespace Sys2Proof

/-- One entry of the exchange table (R43): R(a), W(a), Z or P. -/
inductive Xchg where
  | rd (addr : Addr)
  | wr (addr : Addr)
  | zero
  | prog
  deriving DecidableEq, Repr

/-- Is `f` a frame of this entry (R55)? A RD carries 0x00, a WR any byte, ZERO and PROG the filler. -/
def Xchg.carriedBy (c : Config) (f : Frame) : Xchg → Prop
  | .rd addr => f = packFrame c.opcRd addr 0
  | .wr addr => ∃ b : Byte, f = packFrame c.opcWr addr b
  | .zero => f = packFrame c.opcZero c.cmdAddr c.cmdData
  | .prog => f = packFrame c.opcProg c.cmdAddr c.cmdData

/-- The exchanges of a two-register setter in the order RMW2_ORDER names (R43, R124). -/
def pairExchanges (c : Config) (addrH addrL : Addr) : List Xchg :=
  match c.rmw2Order with
  | .readFirst => [.rd addrL, .wr addrH, .wr addrL]
  | .writeHighFirst => [.wr addrH, .rd addrL, .wr addrL]

/-- The table of R43: the exchanges of an operation, in order, when nothing fails; none for a refused request. -/
def Instr.exchanges (c : Config) : Instr → List Xchg
  | .rdreg addr => if addr ≤ Config.addrMax then [.rd addr] else []
  | .wrreg addr _ => if addr ≤ Config.addrMax then [.wr addr] else []
  | .rmw addr _ _ => if addr ≤ Config.addrMax then [.rd addr, .wr addr] else []
  | .rdangle => [.rd c.addrAngle, .rd (c.addrAngle + 1), .rd (c.addrAngle + 2), .rd (c.addrAngle + 3)]
  | .guid => [.rd c.addrUserId]
  | .suid v => if v.toNat ≤ 255 then [.wr c.addrUserId] else []
  | .gres => [.rd c.addrAbzResH, .rd c.addrAbzResL]
  | .sres v => if 1 ≤ v.toNat ∧ v.toNat ≤ 16384 then pairExchanges c c.addrAbzResH c.addrAbzResL else []
  | .gabz | .gswap => [.rd c.addrAbzResL]
  | .sabz _ | .sswap _ => [.rd c.addrAbzResL, .wr c.addrAbzResL]
  | .gzpos => [.rd c.addrZeroH, .rd c.addrZeroL]
  | .szpos d =>
    if 0 ≤ d.toInt ∧ d.toInt ≤ 360 * 2 ^ c.degFrac then pairExchanges c c.addrZeroH c.addrZeroL else []
  | .gzedge | .gzwid => [.rd c.addrZeroL]
  | .szedge v => if v.toNat ≤ 1 then [.rd c.addrZeroL, .wr c.addrZeroL] else []
  | .szwid v => if v.toNat ≤ 7 then [.rd c.addrZeroL, .wr c.addrZeroL] else []
  | .gzph => [.rd c.addrUvwCfg]
  | .szph v => if v.toNat ≤ 3 then [.rd c.addrUvwCfg, .wr c.addrUvwCfg] else []
  | .gdir => [.rd c.addrHyst]
  | .sdir v => if v.toNat ≤ 1 then [.rd c.addrHyst, .wr c.addrHyst] else []
  | .zero => [.zero]
  | .prog => [.prog]
  | .burst => []
  | .wireRd _ _ | .wireWr _ _ | .wireZero _ _ | .wireProg _ _ | .wireBurst _ _ => []

/-- The bits of the argument a request's form uses (R57): A, AD, MAD, V and Q, N. -/
def formMask : Instr → Word
  | .rdreg _ => 0x00000FFF
  | .wrreg _ _ => 0x000FFFFF
  | .rmw _ _ _ => 0x0FFFFFFF
  | .suid _ | .sres _ | .sabz _ | .sswap _ | .szpos _ | .szedge _ | .szwid _ | .szph _ | .sdir _ => 0xFFFFFFFF
  | .rdangle | .guid | .gres | .gabz | .gswap | .gzpos | .gzedge | .gzwid | .gzph | .gdir | .zero | .prog | .burst => 0
  | .wireRd _ _ | .wireWr _ _ | .wireZero _ _ | .wireProg _ _ | .wireBurst _ _ => 0

namespace Machine

-- The outcomes of one move, field by field.

/-- An exchange has been started (R26, R76): XOUT holds the frame, SEQ = WaitX, no answer is in hand. -/
def State.sent (s : State) (f : Frame) : State := { s with xout := some f, seq := .waitX, reply := none }

/-- The working registers (R17 to R19), all six. -/
structure Work where
  tmp       : Byte
  wdh       : Byte
  wdl       : Byte
  composite : Composite
  crcRx     : Byte
  crc       : Byte
  deriving DecidableEq, Repr

/-- The same state with the working registers `w`. -/
def State.withWork (s : State) (w : Work) : State :=
  { s with tmp := w.tmp, wdh := w.wdh, wdl := w.wdl, composite := w.composite, crcRx := w.crcRx, crc := w.crc }

/-- The same state with the request latch `op`, `arg`. -/
def State.withRequest (s : State) (op : Byte) (arg : Word) : State := { s with reqOp := op, reqArg := arg }

/-- The operation is over (R150, R173): RSP is written, SEQ = Done. The working registers have "no value from here on", so
they are some `w`, and a statement says `∃ w`: what the model leaves in them is its own choice (log entry 4). -/
def State.over (s : State) (r : Rsp) (w : Work) : State := { s.withWork w with rsp := r, seq := .done, reply := none }

/-- The working registers cleared, the model's choice (log entry 4). -/
def Work.cleared : Work := { tmp := 0, wdh := 0, wdl := 0, composite := 0, crcRx := 0, crc := 0 }

/-- An operation at its start: no exchange completed, no answer in hand. -/
def State.AtStart (s : State) : Prop := s.stepCount = 0 ∧ s.reply = none

/-- The answer of exchange `k` is in hand: STEP = k counts it (R15), `b` is its byte. -/
def State.Answered (s : State) (k : BitVec 3) (b : Byte) : Prop := s.stepCount = k ∧ s.reply = some (.ok b)

/-- What the transceiver's wires say of an exchange (R26): Fail carries the payload, TERR_W bits, and no byte. -/
def State.onWires (s : State) : Reply :=
  if s.pins.xrspFail then .fail (s.pins.xrspInfo % 2 ^ s.build.terrW) else .ok s.pins.xrspData

/-- An exchange has been answered (R26, R76): XOUT is empty, SEQ = Run, the answer is in hand, STEP counts an Ok. -/
def State.answeredBy (s : State) (r : Reply) : State :=
  { s with xout := none, seq := .run, reply := some r,
           stepCount := match r with
             | .ok _ => s.stepCount + 1
             | .fail _ => s.stepCount }

/-- A command state after the answer to its frame (R138, R140). -/
def CmdState.after (c : CmdState) (r : Reply) : CmdState :=
  if c = .sent then (if r = .ok 0x55 then .acknowledged else .failed) else c

/-- The table of R34 where it gives a value, the device and the environment apart. -/
def State.HoldsResetValues (s : State) : Prop :=
  s.seq = .idle ∧ s.stepCount = 0 ∧ s.rsp = .absent ∧ s.rsp.valid = false ∧ s.doneFlag = false ∧ s.zeroState = .idle ∧
  s.progState = .idle ∧ s.xout = none ∧ s.xreqValid = false ∧ s.busy = false ∧ s.reply = none

/-- The registers to which R34 gives no value after reset hold 0, the model's choice (log entry 4). -/
def State.LatchAndWorkCleared (s : State) : Prop :=
  s.reqOp = 0 ∧ s.reqArg = 0 ∧ s.tmp = 0 ∧ s.wdh = 0 ∧ s.wdl = 0 ∧ s.composite = 0 ∧ s.crcRx = 0 ∧ s.crc = 0

-- The invariant.

/-- The operation in hand, as the request latch has it (R16). -/
def State.inHand (s : State) : Except DecodeError Instr := decodeOp s.reqOp s.reqArg

/-- What the working registers say once an operation has issued `n` exchanges: a two-register setter that reads first has in
WDL the low byte computed from the TMP it read, until it is written (R19, R109, R115, R124); RDANGLE's COMPOSITE has zeros
where bytes are still to be ORed in (R18, R90). -/
def State.WorkAgrees (s : State) (n : Nat) : Instr → Prop
  | .sres v => s.build.rmw2Order = .readFirst → 2 ≤ n → s.wdl = resLow (pprStored v) s.tmp
  | .szpos d => s.build.rmw2Order = .readFirst → 2 ≤ n → s.wdl = zposLow (degToCode s.build.degFrac d) s.tmp
  | .rdangle =>
    (n = 1 → s.composite = 0) ∧ (n = 2 → s.composite &&& 0x00FFFF = 0) ∧ (n = 3 → s.composite &&& 0x0000FF = 0)
  | .rdreg _ | .wrreg _ _ | .rmw _ _ _ | .guid | .suid _ | .gres | .gabz | .sabz _ | .gswap | .sswap _ | .gzpos | .gzedge
  | .szedge _ | .gzwid | .szwid _ | .gzph | .szph _ | .gdir | .sdir _ | .zero | .prog | .burst
  | .wireRd _ _ | .wireWr _ _ | .wireZero _ _ | .wireProg _ _ | .wireBurst _ _ => True

/-- BUSY = 0 (R14, R34). -/
def State.RestInv (s : State) : Prop :=
  s.xout = none ∧ s.reply = none ∧ s.zeroState ≠ .sent ∧ s.progState ≠ .sent

/-- A command whose answer is in hand has its state in Acknowledged or Failed, as the answer says (R138, R140, R142). -/
def State.CmdJudged (s : State) (r : Reply) (i : Instr) : Prop :=
  (i = .zero → s.zeroState = if r = .ok 0x55 then .acknowledged else .failed) ∧
  (i = .prog → s.progState = if r = .ok 0x55 then .acknowledged else .failed)

/-- SEQ = Run with operation `i` in hand: STEP and the answer in hand name a point of its line (R15). -/
def State.RunPoint (s : State) (i : Instr) : Prop :=
  match s.reply with
  | some (.fail n) => s.stepCount.toNat < (i.exchanges s.build).length ∧ s.CmdJudged (.fail n) i
  | some (.ok b) =>
    1 ≤ s.stepCount.toNat ∧ s.stepCount.toNat ≤ (i.exchanges s.build).length ∧ s.WorkAgrees s.stepCount.toNat i ∧
    s.CmdJudged (.ok b) i
  | none =>
    s.stepCount = 0 ∨
    (i = .rdangle ∧ s.stepCount = 4 ∧ s.crc = crc8Angle s.build.crcSliceSource s.composite) ∨
    (i = .prog ∧ s.stepCount = 1 ∧ s.progState = .acknowledged)

/-- SEQ = Run. -/
def State.RunInv (s : State) : Prop :=
  s.rsp = .absent ∧ s.xout = none ∧ s.zeroState ≠ .sent ∧ s.progState ≠ .sent ∧
  match s.inHand with
  | .ok i => s.RunPoint i
  | .error _ => s.stepCount = 0 ∧ s.reply = none

/-- SEQ = WaitX: the frame in flight is the one the table of R43 lists next, and Sent marks ZERO and PROG frames (R138). -/
def State.WaitInv (s : State) : Prop :=
  s.rsp = .absent ∧ s.reply = none ∧
  ∃ i x f, s.inHand = .ok i ∧ (i.exchanges s.build)[s.stepCount.toNat]? = some x ∧ s.xout = some f ∧
    x.carriedBy s.build f ∧ s.WorkAgrees (s.stepCount.toNat + 1) i ∧
    (s.zeroState = .sent ↔ x = .zero) ∧ (s.progState = .sent ↔ x = .prog)

/-- SEQ = Settle (R14, R140). -/
def State.SettleInv (s : State) : Prop :=
  s.rsp = .absent ∧ s.xout = none ∧ s.reply = none ∧ s.inHand = .ok .prog ∧ s.stepCount = 1 ∧
  s.zeroState ≠ .sent ∧ s.progState = .acknowledged

/-- A transport payload has TERR_W bits (R7, R20). -/
def State.PayloadsFit (s : State) : Prop :=
  (∀ n, s.rsp = .err (.transport n) → n < 2 ^ s.build.terrW) ∧
  (∀ n, s.reply = some (.fail n) → n < 2 ^ s.build.terrW)

/-- What the sequencer's state says of the rest (R13 to R23, R34). -/
def State.SeqInv (s : State) : Prop :=
  match s.seq with
  | .idle => s.RestInv ∧ s.rsp = .absent ∧ s.stepCount = 0 ∧ s.zeroState = .idle ∧ s.progState = .idle
  | .done => s.RestInv ∧ s.rsp ≠ .absent
  | .run => s.RunInv
  | .waitX => s.WaitInv
  | .settle => s.SettleInv

/-- THE INVARIANT of the machine: the build meets R7's constraints, DEV is in canonical form, payloads fit TERR_W, and the
registers agree with SEQ. -/
def State.Inv (s : State) : Prop :=
  s.build.Ok ∧ Memory.wf s.dev ∧ s.PayloadsFit ∧ s.SeqInv

-- Runs under a schedule of pins.

/-- One step with the given pins. -/
def stepWith (p : Pins) (s : State) : Result := step { s with pins := p }

/-- A run, one step for each entry of the schedule. -/
def runWith : List Pins → State → Result
  | [], s => .next s
  | p :: ps, s =>
    match stepWith p s with
    | .next t => runWith ps t
    | .fault r => .fault r
    | .refused r => .refused r

/-- The host presents a request. -/
def Pins.request (w : ReqWord) : Pins := { reqValid := true, req := w }

/-- The environment answers whatever RPC waits for, as the ideal device does (R50). -/
def Pins.ideal : Pins := { xrspValid := true, settleElapsed := true, device := .ideal }

/-- An operation run to its end: the request is presented and accepted, then `ps` are the pins of the steps that follow. -/
def serve (w : ReqWord) (ps : List Pins) (s : State) : Result := runWith (Pins.request w :: ps) s

/-- An operation run against the ideal device. Ten steps are enough for the longest, RDANGLE; a step in Done with no request
changes nothing but the pins. -/
def serveIdeal (w : ReqWord) (s : State) : Result := serve w (List.replicate 10 Pins.ideal) s

/-- The logical parameters of the accessors (R62). -/
inductive Param where
  | userId
  | resolution
  | abzOff
  | abSwap
  | zeroPosition
  | zEdge
  | zWidth
  | zPhase
  | abLead
  deriving DecidableEq, Repr

/-- The parameter a setter writes (R58). -/
def setterOf : Instr → Option Param
  | .suid _ => some .userId
  | .sres _ => some .resolution
  | .sabz _ => some .abzOff
  | .sswap _ => some .abSwap
  | .szpos _ => some .zeroPosition
  | .szedge _ => some .zEdge
  | .szwid _ => some .zWidth
  | .szph _ => some .zPhase
  | .sdir _ => some .abLead
  | .rdreg _ | .wrreg _ _ | .rmw _ _ _ | .rdangle | .guid | .gres | .gabz | .gswap | .gzpos | .gzedge | .gzwid | .gzph
  | .gdir | .zero | .prog | .burst => none
  | .wireRd _ _ | .wireWr _ _ | .wireZero _ _ | .wireProg _ _ | .wireBurst _ _ => none

/-- The parameter a getter reads (R58). -/
def getterOf : Instr → Option Param
  | .guid => some .userId
  | .gres => some .resolution
  | .gabz => some .abzOff
  | .gswap => some .abSwap
  | .gzpos => some .zeroPosition
  | .gzedge => some .zEdge
  | .gzwid => some .zWidth
  | .gzph => some .zPhase
  | .gdir => some .abLead
  | .rdreg _ | .wrreg _ _ | .rmw _ _ _ | .rdangle | .suid _ | .sres _ | .sabz _ | .sswap _ | .szpos _ | .szedge _
  | .szwid _ | .szph _ | .sdir _ | .zero | .prog | .burst => none
  | .wireRd _ _ | .wireWr _ _ | .wireZero _ _ | .wireProg _ _ | .wireBurst _ _ => none

/-- The error kinds by name (R147), without what they record. -/
inductive ErrKind where
  | transport
  | invalidArgument
  | checksum
  | unexpectedAck
  | decode
  | illegal
  deriving DecidableEq, Repr

/-- The kind of an error. -/
def OpError.kind : OpError → ErrKind
  | .transport _ => .transport
  | .invalidArgument => .invalidArgument
  | .checksumMismatch _ => .checksum
  | .unexpectedAcknowledgement => .unexpectedAck
  | .decodeFailure => .decode
  | .illegalOperation => .illegal

/-- The argument ranges of R71 and R148, each as the operand values that are refused. -/
def badArgument (c : Config) : Instr → Prop
  | .rdreg addr | .wrreg addr _ | .rmw addr _ _ => 0x1FF < addr.toNat
  | .suid v => 255 < v.toNat
  | .sres v => v.toNat = 0 ∨ 16384 < v.toNat
  | .szpos d => d.toInt < 0 ∨ 360 * 2 ^ c.degFrac < d.toInt
  | .szedge v | .sdir v => 1 < v.toNat
  | .szwid v => 7 < v.toNat
  | .szph v => 3 < v.toNat
  | .rdangle | .guid | .gres | .gabz | .sabz _ | .gswap | .sswap _ | .gzpos | .gzedge | .gzwid | .gzph | .gdir
  | .zero | .prog | .burst => False
  | .wireRd _ _ | .wireWr _ _ | .wireZero _ _ | .wireProg _ _ | .wireBurst _ _ => False

/-- The table of R148: may operation `i` end in an error of kind `k`? -/
def mayEndIn (c : Config) (i : Instr) (k : ErrKind) : Prop :=
  match k with
  | .transport => i.isWire = false ∧ i ≠ .burst ∧ ¬ badArgument c i
  | .invalidArgument => badArgument c i
  | .checksum => i = .rdangle
  | .unexpectedAck => i = .zero ∨ i = .prog
  | .decode => False
  | .illegal => i = .burst

/-- The request word of an operation (R57). -/
def requestWord (i : Instr) : ReqWord :=
  match encode Config.default i with
  | .request w => w
  | .frame _ => 0

end Machine

end Sys2Proof
end

