-- ==== Sys2Proof/Certificates/Slice0/Obligations.lean ====
section
/-! DEFINITION. The statements for the provers, each one `def Obligations.<Name> : Prop`. Numbers R<n> are the rules of spec/;
`State.sent`, `State.over`, `State.answeredBy` (Safety.lean) write a move's next state out field by field, so a conclusion
`∃ w, exec i s = .next (s.over r w)` also says that every other field is as it was, the working registers apart, which have
"no value from here on" (R150): they are some `w`. That an operation is one exec for each stretch between two exchanges, its
point given by STEP and the answer in hand (`State.AtStart`, `State.Answered`), is the model's grain (log entries 9 and 12);
what a stretch does is the cited rule's. That STEP and the request latch keep their values at the end of an operation is the
model's choice (log entry 19). -/

open Sys2Proof Sys2Proof.Machine

-- Reset, requests, and who moves.

/-- R168: the table of R34 holds in the reset state and, in any state, in the step after RESET. That the request latch and the
working registers, to which R34 gives no value, hold 0 is the model's choice (log entry 4). -/
def Obligations.ResetLeavesTheTabledValues : Prop :=
  State.reset.HoldsResetValues ∧ State.reset.LatchAndWorkCleared ∧
  ∀ s : State, s.pins.reset = true → ∃ t, step s = .next t ∧ t.HoldsResetValues ∧ t.LatchAndWorkCleared

/-- R169, R171: reset in any state sends no frame and does not touch the device, but for the frame in flight, which the
environment chooses that the device acted on or not (log entry 11): a WR acted on is stored, and after any other frame but a RD
that a device not taken to be ideal acted on no register is known (R145, U12; log entry 6). That a WR to an address above 0x1FF
changes no other register is the model's choice (log entry 24; C5 leaves it open). -/
def Obligations.ResetLeavesTheDeviceAlone : Prop :=
  ∀ s : State, s.pins.reset = true → ∃ t, step s = .next t ∧ t.xout = none ∧ t.rsp = .absent ∧ t.build = s.build ∧
    ∀ a : Nat, Memory.read t.dev a = Memory.read s.dev a ∨
      (s.seq = .waitX ∧ ∃ f, s.xout = some f ∧
        ((s.pins.device ≠ .ignores ∧ frameCmd f = s.build.opcWr ∧ a = (frameAddr f).toNat ∧
            Memory.read t.dev a = some (frameTx f)) ∨
          (s.pins.device = .acts ∧ frameCmd f ≠ s.build.opcRd ∧ frameCmd f ≠ s.build.opcWr ∧
            Memory.read t.dev a = none)))

/-- R25: BUSY and DONE; a request is accepted when REQ_VALID = 1 and BUSY = 0; without one nothing but the pins changes; the
encoding of the command states on their ports. That accepting a ZERO or PROG request leaves ZERO_STATE and PROG_STATE as they
are, Sent coming with the frame and not with the acceptance, is the model's choice (log entry 13, against the first row of the
tables of R138 and R140). -/
def Obligations.RequestIsAcceptedWhenNotBusy : Prop :=
  (∀ s : State, (s.busy = true ↔ s.seq = .run ∨ s.seq = .waitX ∨ s.seq = .settle) ∧
    (s.doneFlag = true ↔ s.seq = .done)) ∧
  (∀ s : State, s.pins.reset = false → s.busy = false → s.pins.reqValid = true →
    step s = .next { s with
      reqOp := requestOp s.pins.req, reqArg := requestArg s.pins.req, stepCount := 0, seq := .run,
      rsp := .absent, reply := none, pins := s.env.head?.getD {}, env := s.env.tail }) ∧
  (∀ s : State, s.pins.reset = false → s.busy = false → s.pins.reqValid = false →
    step s = .next { s with pins := s.env.head?.getD {}, env := s.env.tail }) ∧
  (CmdState.idle.code = 0 ∧ CmdState.sent.code = 1 ∧ CmdState.acknowledged.code = 2 ∧ CmdState.failed.code = 3)

/-- R25, R177: "A request presented while BUSY = 1 is not accepted and has no effect": a step while BUSY = 1 does not depend on
the request port. -/
def Obligations.RequestWhileBusyHasNoEffect : Prop :=
  ∀ (s : State) (v : Bool) (w : ReqWord), s.busy = true →
    step { s with pins := { s.pins with reqValid := v, req := w } } = step s

/-- R26, R141, R158: an exchange response is looked at in SEQ = WaitX only, settle-elapsed in SEQ = Settle only; in every
other state a step does not depend on them. -/
def Obligations.EnvironmentEventsAreIgnoredElsewhere : Prop :=
  (∀ (s : State) (v : Bool) (d : Byte) (f : Bool) (n : Nat) (m : DeviceMove), s.seq ≠ .waitX →
    step { s with pins := { s.pins with xrspValid := v, xrspData := d, xrspFail := f, xrspInfo := n, device := m } } =
      step s) ∧
  (∀ (s : State) (e : Bool), s.seq ≠ .settle → step { s with pins := { s.pins with settleElapsed := e } } = step s)

/-- A step in SEQ = Run is `exec` of the operation the request latch decodes to (R15, R16), then the next pins are in place. -/
def Obligations.StepRunsTheOperationInHand : Prop :=
  ∀ (s : State) (i : Instr), s.pins.reset = false → s.seq = .run → decodeOp s.reqOp s.reqArg = .ok i →
    step s =
      match exec i s with
      | .next t => .next { t with pins := t.env.head?.getD {}, env := t.env.tail }
      | .fault r => .fault r
      | .refused r => .refused r

/-- A step in SEQ = WaitX is `exec` of the wire command whose frame XOUT holds (R23, R26), then the next pins are in place. -/
def Obligations.StepRunsTheFrameInFlight : Prop :=
  ∀ (s : State) (f : Frame) (i : Instr),
    s.pins.reset = false → s.seq = .waitX → s.xout = some f → decodeFrame s.build f = .ok i →
    step s =
      match exec i s with
      | .next t => .next { t with pins := t.env.head?.getD {}, env := t.env.tail }
      | .fault r => .fault r
      | .refused r => .refused r

/-- R157: IllegalOperation, before any exchange, for BURST and for every op code outside the table of R58. -/
def Obligations.IllegalOperationIsRaisedAtDecode : Prop :=
  (∀ (op : Byte) (arg : Word), (∃ e, decodeOp op arg = .error e) ↔
    op ∉ ([0x01, 0x02, 0x03, 0x08, 0x10, 0x11, 0x12, 0x13, 0x14, 0x15, 0x16, 0x17, 0x18, 0x19, 0x1A, 0x1B, 0x1C, 0x1D,
      0x1E, 0x1F, 0x20, 0x21, 0x30, 0x31, 0x32] : List Byte)) ∧
  (∀ (s : State) (e : DecodeError), s.pins.reset = false → s.seq = .run → decodeOp s.reqOp s.reqArg = .error e →
    ∃ w, step s = .next { s.over (.err .illegalOperation) w with pins := s.env.head?.getD {}, env := s.env.tail }) ∧
  (∀ s : State, (∃ w, exec .burst s = .next (s.over (.err .illegalOperation) w)))

/-- R141, R51: in SEQ = Settle a step changes nothing but the pins until settle-elapsed, and then only SEQ. That SEQ goes to Run,
with RSP still None, and not to Done at once is the model's reading (log entry 15): R139 and the vectors are followed against
the settle-elapsed row of R140. -/
def Obligations.SettleEndsOnlyWithItsEvent : Prop :=
  ∀ s : State, s.pins.reset = false → s.seq = .settle →
    step s = .next { s with
      seq := if s.pins.settleElapsed then .run else .settle, pins := s.env.head?.getD {}, env := s.env.tail }

/-- R59, R147: the response ports. RSP_VALID is 1 once an operation has ended; RSP_ERR is the code of the table; RSP_INFO is
meaningful with TransportError only, RSP_VAL with Ok and ChecksumMismatch only. R26: XREQ_VALID is 1 and XREQ_FRAME has a
meaning exactly while SEQ = WaitX. -/
def Obligations.PortsFollowTheState : Prop :=
  (∀ s : State, (s.xreqValid = true ↔ s.seq = .waitX) ∧ (s.seq = .waitX → s.xreqFrame = s.xout) ∧
    (s.seq ≠ .waitX → s.xreqFrame = none)) ∧
  (∀ r : Rsp, (r.valid = true ↔ r ≠ .absent) ∧ (r.errPort = none ↔ r = .absent) ∧
    (∀ n, r.infoPort = some n ↔ r = .err (.transport n)) ∧
    (∀ v, r.valPort = some v ↔ r = .ok v ∨ r = .err (.checksumMismatch v))) ∧
  (∀ (v : Word) (n : Nat), (Rsp.ok v).errPort = some 0 ∧ (Rsp.err (.transport n)).errPort = some 1 ∧
    (Rsp.err .invalidArgument).errPort = some 2 ∧ (Rsp.err (.checksumMismatch v)).errPort = some 3 ∧
    (Rsp.err .unexpectedAcknowledgement).errPort = some 4 ∧ (Rsp.err .decodeFailure).errPort = some 5 ∧
    (Rsp.err .illegalOperation).errPort = some 6)

/-- R21, R92: the four members of the angle sample that an RDANGLE response carries; valid is the Ok/Err tag. -/
def Obligations.AngleSampleIsCarriedByTheResponse : Prop :=
  ∀ (crc : Byte) (c : Composite),
    (Rsp.ok (crc ++ c)).angleSample =
      some { rawAngle := (c >>> 3).setWidth 21, status := c.setWidth 3, crc := crc, valid := true } ∧
    (Rsp.err (.checksumMismatch (crc ++ c))).angleSample =
      some { rawAngle := (c >>> 3).setWidth 21, status := c.setWidth 3, crc := crc, valid := false }

-- The wire commands.

/-- R26, R183: without an answer every exchange stays outstanding and nothing changes. -/
def Obligations.ExchangeWithoutAnswerWaits : Prop :=
  ∀ (s : State) (a : Addr) (b : Byte), s.pins.xrspValid = false → ∀ i : Instr,
    (i = .wireRd a b ∨ i = .wireWr a b ∨ i = .wireZero a b ∨ i = .wireProg a b ∨ i = .wireBurst a b) →
    exec i s = .next s

/-- R26, R76, R152: an answer on the wires. RD stores nothing; a WR to a register of the device is stored or not, as the
environment chooses, whether the answer is Ok or Fail. That a WR to an address above 0x1FF that the device acted on leaves DEV
as it was is the model's choice (log entry 24; C5 leaves it open). That a BURST frame is an exchange like any other is log
entry 14, and that no register is known after one the device acted on is log entry 6. -/
def Obligations.ExchangeAnsweredOnTheWires : Prop :=
  ∀ (s : State) (a : Addr) (b : Byte), s.build.Ok → s.pins.xrspValid = true → s.pins.device ≠ .ideal →
    exec (.wireRd a b) s = .next (s.answeredBy s.onWires) ∧
    exec (.wireWr a b) s = .next { s.answeredBy s.onWires with
      dev := if s.pins.device = .acts ∧ a ≤ 0x1FF then Memory.write s.dev a.toNat b else s.dev } ∧
    exec (.wireBurst a b) s = .next { s.answeredBy s.onWires with
      dev := if s.pins.device = .acts then [] else s.dev }

/-- R138, R140, R142: the answer to a ZERO or PROG frame moves its command state out of Sent, to Acknowledged iff the exchange
succeeded with 0x55; from no other value does it move. What the frame changes in a device that acts on it is open (R145, U12);
that no register of DEV is known afterwards is how the model holds it (log entry 6). -/
def Obligations.CommandAnswerMovesItsState : Prop :=
  ∀ (s : State) (a : Addr) (b : Byte), s.build.Ok → s.pins.xrspValid = true → s.pins.device ≠ .ideal →
    exec (.wireZero a b) s = .next { s.answeredBy s.onWires with
      zeroState := s.zeroState.after s.onWires, dev := if s.pins.device = .acts then [] else s.dev } ∧
    exec (.wireProg a b) s = .next { s.answeredBy s.onWires with
      progState := s.progState.after s.onWires, dev := if s.pins.device = .acts then [] else s.dev }

/-- R50: the answers of the ideal device. A read gives the byte the register is known to hold, a write stores, the two
commands are acknowledged and change no register, everything else fails with payload 0. -/
def Obligations.IdealDeviceAnswers : Prop :=
  ∀ (s : State) (a : Addr) (b : Byte), s.build.Ok → s.pins.xrspValid = true → s.pins.device = .ideal →
    (∀ x, a ≤ 0x1FF → Memory.read s.dev a.toNat = some x → exec (.wireRd a b) s = .next (s.answeredBy (.ok x))) ∧
    (a ≤ 0x1FF → Memory.read s.dev a.toNat = none → ∃ x,
      exec (.wireRd a b) s = .next { s.answeredBy (.ok x) with draws := s.draws + 1 }) ∧
    (a ≤ 0x1FF →
      exec (.wireWr a b) s = .next { s.answeredBy (.ok b) with dev := Memory.write s.dev a.toNat b }) ∧
    (¬ a ≤ 0x1FF → exec (.wireRd a b) s = .next (s.answeredBy (.fail 0)) ∧
      exec (.wireWr a b) s = .next (s.answeredBy (.fail 0))) ∧
    exec (.wireZero a b) s = .next { s.answeredBy (.ok 0x55) with zeroState := s.zeroState.after (.ok 0x55) } ∧
    exec (.wireProg a b) s = .next { s.answeredBy (.ok 0x55) with progState := s.progState.after (.ok 0x55) } ∧
    exec (.wireBurst a b) s = .next (s.answeredBy (.fail 0))

/-- The frame of the wire commands, whatever the pins: no register of RPC changes but XOUT, SEQ, STEP, the answer in hand and
the command's own state; of the device, only the byte at the address a WR stores to. After a ZERO, PROG or BURST frame that a
device not taken to be ideal acted on, which registers hold what is open (R145, U12): there the model knows none (log entries
6 and 14). That a WR to an address above 0x1FF that such a device acted on changes no other register is log entry 24. -/
def Obligations.WireCommandFrame : Prop :=
  ∀ (s t : State) (a : Addr) (b : Byte) (i : Instr),
    (i = .wireRd a b ∨ i = .wireWr a b ∨ i = .wireZero a b ∨ i = .wireProg a b ∨ i = .wireBurst a b) →
    s.build.Ok → exec i s = .next t →
    t.build = s.build ∧ t.reqOp = s.reqOp ∧ t.reqArg = s.reqArg ∧ t.tmp = s.tmp ∧ t.wdh = s.wdh ∧ t.wdl = s.wdl ∧
    t.composite = s.composite ∧ t.crcRx = s.crcRx ∧ t.crc = s.crc ∧ t.rsp = s.rsp ∧ t.pins = s.pins ∧ t.env = s.env ∧
    (i ≠ .wireZero a b → t.zeroState = s.zeroState) ∧ (i ≠ .wireProg a b → t.progState = s.progState) ∧
    (∀ n : Nat, Memory.read t.dev n = Memory.read s.dev n ∨
      (i = .wireWr a b ∧ n = a.toNat ∧ Memory.read t.dev n = some b) ∨
      ((i = .wireZero a b ∨ i = .wireProg a b ∨ i = .wireBurst a b) ∧ s.pins.xrspValid = true ∧ s.pins.device = .acts ∧
        Memory.read t.dev n = none))

-- The register codec operations and the angle.

/-- R77: RDREG. -/
def Obligations.RdregReadsOneRegister : Prop :=
  (∀ arg : Word, decodeOp 0x01 arg = .ok (.rdreg (arg.extractLsb' 0 12))) ∧
  ∀ (s : State) (a : Addr),
    (s.AtStart → 0x1FF < a.toNat → ∃ w, exec (.rdreg a) s = .next (s.over (.err .invalidArgument) w)) ∧
    (s.AtStart → a.toNat ≤ 0x1FF → exec (.rdreg a) s = .next (s.sent (packFrame s.build.opcRd a 0x00))) ∧
    (∀ b, s.Answered 1 b → ∃ w, exec (.rdreg a) s = .next (s.over (.ok (b.setWidth 32)) w)) ∧
    (∀ n, s.reply = some (.fail n) → ∃ w, exec (.rdreg a) s = .next (s.over (.err (.transport n)) w))

/-- R78: WRREG; the byte that comes back is not read. -/
def Obligations.WrregWritesOneRegister : Prop :=
  (∀ arg : Word, decodeOp 0x02 arg = .ok (.wrreg (arg.extractLsb' 8 12) (arg.extractLsb' 0 8))) ∧
  ∀ (s : State) (a : Addr) (d : Byte),
    (s.AtStart → 0x1FF < a.toNat → ∃ w, exec (.wrreg a d) s = .next (s.over (.err .invalidArgument) w)) ∧
    (s.AtStart → a.toNat ≤ 0x1FF → exec (.wrreg a d) s = .next (s.sent (packFrame s.build.opcWr a d))) ∧
    (∀ b, s.Answered 1 b → ∃ w, exec (.wrreg a d) s = .next (s.over (.ok 0) w)) ∧
    (∀ n, s.reply = some (.fail n) → ∃ w, exec (.wrreg a d) s = .next (s.over (.err (.transport n)) w))

/-- R79, R80: RMW, the literal `(TMP & ~mask) | newBits`, with newBits not masked. -/
def Obligations.RmwReadsThenWritesTheSameRegister : Prop :=
  (∀ arg : Word,
    decodeOp 0x03 arg = .ok (.rmw (arg.extractLsb' 8 12) (arg.extractLsb' 20 8) (arg.extractLsb' 0 8))) ∧
  ∀ (s : State) (a : Addr) (m nb : Byte),
    (s.AtStart → 0x1FF < a.toNat → ∃ w, exec (.rmw a m nb) s = .next (s.over (.err .invalidArgument) w)) ∧
    (s.AtStart → a.toNat ≤ 0x1FF → exec (.rmw a m nb) s = .next (s.sent (packFrame s.build.opcRd a 0x00))) ∧
    (∀ b, s.Answered 1 b → exec (.rmw a m nb) s =
      .next ({ s with tmp := b, wdl := (b &&& ~~~m) ||| nb }.sent
        (packFrame s.build.opcWr a ((b &&& ~~~m) ||| nb)))) ∧
    (∀ b, s.Answered 2 b → ∃ w, exec (.rmw a m nb) s = .next (s.over (.ok 0) w)) ∧
    (∀ n, s.reply = some (.fail n) → ∃ w, exec (.rmw a m nb) s = .next (s.over (.err (.transport n)) w))

/-- R90, R91: RDANGLE. COMPOSITE is cleared, the four registers are read in increasing address order, the first three bytes are
ORed in at offsets 16, 8 and 0, the fourth is the transmitted CRC; the sample is valid iff the CRC agrees. -/
def Obligations.RdangleAssemblesAndValidates : Prop :=
  (∀ arg : Word, decodeOp 0x08 arg = .ok .rdangle) ∧
  ∀ s : State,
    (s.AtStart → exec .rdangle s =
      .next ({ s with composite := 0 }.sent (packFrame s.build.opcRd s.build.addrAngle 0x00))) ∧
    (∀ b, s.Answered 1 b → exec .rdangle s =
      .next ({ s with composite := s.composite ||| (b.setWidth 24 <<< 16) }.sent
        (packFrame s.build.opcRd (s.build.addrAngle + 1) 0x00))) ∧
    (∀ b, s.Answered 2 b → exec .rdangle s =
      .next ({ s with composite := s.composite ||| (b.setWidth 24 <<< 8) }.sent
        (packFrame s.build.opcRd (s.build.addrAngle + 2) 0x00))) ∧
    (∀ b, s.Answered 3 b → exec .rdangle s =
      .next ({ s with composite := s.composite ||| b.setWidth 24 }.sent
        (packFrame s.build.opcRd (s.build.addrAngle + 3) 0x00))) ∧
    (∀ b, s.Answered 4 b → exec .rdangle s =
      .next { s with crcRx := b, crc := crc8Angle s.build.crcSliceSource s.composite, reply := none }) ∧
    (s.stepCount = 4 → s.reply = none → ∃ w, exec .rdangle s =
      .next (s.over (if s.crc = s.crcRx then .ok (s.crcRx ++ s.composite)
        else .err (.checksumMismatch (s.crcRx ++ s.composite))) w)) ∧
    (∀ n, s.reply = some (.fail n) → ∃ w, exec .rdangle s = .next (s.over (.err (.transport n)) w))

/-- R90, R93, R97, R154: a whole RDANGLE from a state that is not busy. With four good answers it ends with the sample, Ok iff
crc8_angle of the composite is the fourth byte; if exchange k + 1 fails, for any k below 4, it ends there with TransportError,
STEP = k and the device as it was. -/
def Obligations.AngleReadEndsWithItsSample : Prop :=
  ∀ (s : State) (b0 b1 b2 b3 : Byte) (n : Nat) (m : DeviceMove), s.build.Ok → s.busy = false → m ≠ .ideal →
    (let good := fun b : Byte => ({ xrspValid := true, xrspData := b, device := m } : Pins)
     let bad : Pins := { xrspValid := true, xrspFail := true, xrspInfo := n, device := m }
     let quiet : Pins := {}
     let c : Composite := (b0 ++ b1) ++ b2
     (∃ t, serve (requestWord .rdangle)
        [quiet, good b0, quiet, good b1, quiet, good b2, quiet, good b3, quiet, quiet] s = .next t ∧ t.seq = .done ∧
        t.dev = s.dev ∧
        t.rsp = (if crc8Angle s.build.crcSliceSource c = b3 then .ok (b3 ++ c) else .err (.checksumMismatch (b3 ++ c)))) ∧
     (∀ k, k < 4 → ∃ t, serve (requestWord .rdangle)
        ((([b0, b1, b2, b3].take k).flatMap fun b => [quiet, good b]) ++ [quiet, bad, quiet]) s = .next t ∧
        t.seq = .done ∧ t.stepCount.toNat = k ∧ t.dev = s.dev ∧ t.rsp = .err (.transport (n % 2 ^ s.build.terrW))))

-- The parameter accessors.

/-- R106, R107: GUID and SUID. -/
def Obligations.UserIdAccessors : Prop :=
  (∀ arg : Word, decodeOp 0x10 arg = .ok .guid ∧ decodeOp 0x11 arg = .ok (.suid arg)) ∧
  ∀ (s : State) (v : Word),
    (s.AtStart → exec .guid s = .next (s.sent (packFrame s.build.opcRd s.build.addrUserId 0x00))) ∧
    (∀ b, s.Answered 1 b → ∃ w, exec .guid s = .next (s.over (.ok (b.setWidth 32)) w)) ∧
    (s.AtStart → 255 < v.toNat → ∃ w, exec (.suid v) s = .next (s.over (.err .invalidArgument) w)) ∧
    (s.AtStart → v.toNat ≤ 255 →
      exec (.suid v) s = .next (s.sent (packFrame s.build.opcWr s.build.addrUserId (v.setWidth 8)))) ∧
    (∀ b, s.Answered 1 b → ∃ w, exec (.suid v) s = .next (s.over (.ok 0) w)) ∧
    (∀ n i, s.reply = some (.fail n) → (i = .guid ∨ i = .suid v) →
      ∃ w, exec i s = .next (s.over (.err (.transport n)) w))

/-- R108: GRES, the high register first, ppr = {H, L[7:2]} + 1. -/
def Obligations.GresReadsHighThenLow : Prop :=
  (∀ arg : Word, decodeOp 0x12 arg = .ok .gres) ∧
  ∀ s : State,
    (s.AtStart → exec .gres s = .next (s.sent (packFrame s.build.opcRd s.build.addrAbzResH 0x00))) ∧
    (∀ h, s.Answered 1 h → exec .gres s =
      .next ({ s with tmp := h }.sent (packFrame s.build.opcRd s.build.addrAbzResL 0x00))) ∧
    (∀ l, s.Answered 2 l → ∃ w, exec .gres s =
      .next (s.over (.ok (BitVec.ofNat 32 (s.tmp.toNat * 64 + l.toNat / 4 + 1))) w)) ∧
    (∀ n, s.reply = some (.fail n) → ∃ w, exec .gres s = .next (s.over (.err (.transport n)) w))

/-- R109, R124: SRES in both orders: the same bytes, the low register read before it is written, high written before low. -/
def Obligations.SresWritesHighThenLow : Prop :=
  (∀ arg : Word, decodeOp 0x13 arg = .ok (.sres arg)) ∧
  ∀ (s : State) (v : Word),
    (s.AtStart → (v.toNat = 0 ∨ 16384 < v.toNat) → ∃ w, exec (.sres v) s = .next (s.over (.err .invalidArgument) w)) ∧
    (∀ n, s.reply = some (.fail n) → ∃ w, exec (.sres v) s = .next (s.over (.err (.transport n)) w)) ∧
    (1 ≤ v.toNat → v.toNat ≤ 16384 →
      let wdh : Byte := BitVec.ofNat 8 ((v.toNat - 1) / 64)
      let wdl : Byte → Byte := fun old => BitVec.ofNat 8 ((v.toNat - 1) % 64 * 4) ||| (old &&& 0x03)
      (s.build.rmw2Order = .readFirst →
        (s.AtStart → exec (.sres v) s = .next (s.sent (packFrame s.build.opcRd s.build.addrAbzResL 0x00))) ∧
        (∀ old, s.Answered 1 old → exec (.sres v) s =
          .next ({ s with tmp := old, wdh := wdh, wdl := (wdl old) }.sent
            (packFrame s.build.opcWr s.build.addrAbzResH wdh))) ∧
        (∀ b, s.Answered 2 b → exec (.sres v) s =
          .next (s.sent (packFrame s.build.opcWr s.build.addrAbzResL s.wdl))) ∧
        (∀ b, s.Answered 3 b → ∃ w, exec (.sres v) s = .next (s.over (.ok 0) w))) ∧
      (s.build.rmw2Order = .writeHighFirst →
        (s.AtStart → exec (.sres v) s =
          .next ({ s with wdh := wdh }.sent (packFrame s.build.opcWr s.build.addrAbzResH wdh))) ∧
        (∀ b, s.Answered 1 b → exec (.sres v) s =
          .next (s.sent (packFrame s.build.opcRd s.build.addrAbzResL 0x00))) ∧
        (∀ old, s.Answered 2 old → exec (.sres v) s =
          .next ({ s with tmp := old, wdl := (wdl old) }.sent
            (packFrame s.build.opcWr s.build.addrAbzResL (wdl old)))) ∧
        (∀ b, s.Answered 3 b → ∃ w, exec (.sres v) s = .next (s.over (.ok 0) w))))

/-- R110 to R113: the two bits of the low resolution register; the setters accept every v and keep the other bits. -/
def Obligations.AbzBitAccessors : Prop :=
  (∀ arg : Word, decodeOp 0x14 arg = .ok .gabz ∧ decodeOp 0x15 arg = .ok (.sabz arg) ∧
    decodeOp 0x16 arg = .ok .gswap ∧ decodeOp 0x17 arg = .ok (.sswap arg)) ∧
  ∀ (s : State) (v : Word),
    (s.AtStart → ∀ i, (i = .gabz ∨ i = .sabz v ∨ i = .gswap ∨ i = .sswap v) →
      exec i s = .next (s.sent (packFrame s.build.opcRd s.build.addrAbzResL 0x00))) ∧
    (∀ b, s.Answered 1 b →
      (∃ w, exec .gabz s = .next (s.over (.ok (if b.getLsbD 1 then 1 else 0)) w)) ∧
      (∃ w, exec .gswap s = .next (s.over (.ok (if b.getLsbD 0 then 1 else 0)) w)) ∧
      (let w : Byte := (b &&& 0xFD) ||| (if v = 0 then 0x00 else 0x02)
       exec (.sabz v) s = .next ({ s with tmp := b, wdl := w }.sent
        (packFrame s.build.opcWr s.build.addrAbzResL w))) ∧
      (let w : Byte := (b &&& 0xFE) ||| (if v = 0 then 0x00 else 0x01)
       exec (.sswap v) s = .next ({ s with tmp := b, wdl := w }.sent
        (packFrame s.build.opcWr s.build.addrAbzResL w)))) ∧
    (∀ b i, s.Answered 2 b → (i = .sabz v ∨ i = .sswap v) → ∃ w, exec i s = .next (s.over (.ok 0) w)) ∧
    (∀ n i, s.reply = some (.fail n) → (i = .gabz ∨ i = .sabz v ∨ i = .gswap ∨ i = .sswap v) →
      ∃ w, exec i s = .next (s.over (.err (.transport n)) w))

/-- R114: GZPOS, the high register first, the 12-bit code {H, L[7:4]}. -/
def Obligations.GzposReadsHighThenLow : Prop :=
  (∀ arg : Word, decodeOp 0x18 arg = .ok .gzpos) ∧
  ∀ s : State,
    (s.AtStart → exec .gzpos s = .next (s.sent (packFrame s.build.opcRd s.build.addrZeroH 0x00))) ∧
    (∀ h, s.Answered 1 h → exec .gzpos s =
      .next ({ s with tmp := h }.sent (packFrame s.build.opcRd s.build.addrZeroL 0x00))) ∧
    (∀ l, s.Answered 2 l → ∃ w, exec .gzpos s =
      .next (s.over (.ok (BitVec.ofNat 32 (s.tmp.toNat * 16 + l.toNat / 16))) w)) ∧
    (∀ n, s.reply = some (.fail n) → ∃ w, exec .gzpos s = .next (s.over (.err (.transport n)) w))

/-- R115, R124: SZPOS in both orders, with the signed range check and z = floor((D * 4095 + S / 2) / S). -/
def Obligations.SzposWritesHighThenLow : Prop :=
  (∀ arg : Word, decodeOp 0x19 arg = .ok (.szpos arg)) ∧
  ∀ (s : State) (d : Word),
    (s.AtStart → (d.toInt < 0 ∨ 360 * 2 ^ s.build.degFrac < d.toInt) →
      ∃ w, exec (.szpos d) s = .next (s.over (.err .invalidArgument) w)) ∧
    (∀ n, s.reply = some (.fail n) → ∃ w, exec (.szpos d) s = .next (s.over (.err (.transport n)) w)) ∧
    (0 ≤ d.toInt → d.toInt ≤ 360 * 2 ^ s.build.degFrac →
      let scale := 360 * 2 ^ s.build.degFrac
      let z := (d.toNat * 4095 + scale / 2) / scale
      let wdh : Byte := BitVec.ofNat 8 (z / 16)
      let wdl : Byte → Byte := fun old => BitVec.ofNat 8 (z % 16 * 16) ||| (old &&& 0x0F)
      (s.build.rmw2Order = .readFirst →
        (s.AtStart → exec (.szpos d) s = .next (s.sent (packFrame s.build.opcRd s.build.addrZeroL 0x00))) ∧
        (∀ old, s.Answered 1 old → exec (.szpos d) s =
          .next ({ s with tmp := old, wdh := wdh, wdl := (wdl old) }.sent
            (packFrame s.build.opcWr s.build.addrZeroH wdh))) ∧
        (∀ b, s.Answered 2 b → exec (.szpos d) s =
          .next (s.sent (packFrame s.build.opcWr s.build.addrZeroL s.wdl))) ∧
        (∀ b, s.Answered 3 b → ∃ w, exec (.szpos d) s = .next (s.over (.ok 0) w))) ∧
      (s.build.rmw2Order = .writeHighFirst →
        (s.AtStart → exec (.szpos d) s =
          .next ({ s with wdh := wdh }.sent (packFrame s.build.opcWr s.build.addrZeroH wdh))) ∧
        (∀ b, s.Answered 1 b → exec (.szpos d) s =
          .next (s.sent (packFrame s.build.opcRd s.build.addrZeroL 0x00))) ∧
        (∀ old, s.Answered 2 old → exec (.szpos d) s =
          .next ({ s with tmp := old, wdl := (wdl old) }.sent
            (packFrame s.build.opcWr s.build.addrZeroL (wdl old)))) ∧
        (∀ b, s.Answered 3 b → ∃ w, exec (.szpos d) s = .next (s.over (.ok 0) w))))

/-- R116 to R119: index edge polarity and index pulse width, the two fields beside the zero position's low nibble. -/
def Obligations.IndexEdgeAndWidthAccessors : Prop :=
  (∀ arg : Word, decodeOp 0x1A arg = .ok .gzedge ∧ decodeOp 0x1B arg = .ok (.szedge arg) ∧
    decodeOp 0x1C arg = .ok .gzwid ∧ decodeOp 0x1D arg = .ok (.szwid arg)) ∧
  ∀ (s : State) (v : Word),
    (s.AtStart → 1 < v.toNat → ∃ w, exec (.szedge v) s = .next (s.over (.err .invalidArgument) w)) ∧
    (s.AtStart → 7 < v.toNat → ∃ w, exec (.szwid v) s = .next (s.over (.err .invalidArgument) w)) ∧
    (s.AtStart → ∀ i, (i = .gzedge ∨ i = .gzwid ∨ (i = .szedge v ∧ v.toNat ≤ 1) ∨ (i = .szwid v ∧ v.toNat ≤ 7)) →
      exec i s = .next (s.sent (packFrame s.build.opcRd s.build.addrZeroL 0x00))) ∧
    (∀ b, s.Answered 1 b →
      (∃ w, exec .gzedge s = .next (s.over (.ok (if b.getLsbD 3 then 1 else 0)) w)) ∧
      (∃ w, exec .gzwid s = .next (s.over (.ok (BitVec.ofNat 32 (b.toNat % 8))) w)) ∧
      (let w : Byte := (b &&& 0xF7) ||| ((v.extractLsb' 0 1).setWidth 8 <<< 3)
       exec (.szedge v) s = .next ({ s with tmp := b, wdl := w }.sent
        (packFrame s.build.opcWr s.build.addrZeroL w))) ∧
      (let w : Byte := (b &&& 0xF8) ||| (v.extractLsb' 0 3).setWidth 8
       exec (.szwid v) s = .next ({ s with tmp := b, wdl := w }.sent
        (packFrame s.build.opcWr s.build.addrZeroL w)))) ∧
    (∀ b i, s.Answered 2 b → (i = .szedge v ∨ i = .szwid v) → ∃ w, exec i s = .next (s.over (.ok 0) w)) ∧
    (∀ n i, s.reply = some (.fail n) → (i = .gzedge ∨ i = .szedge v ∨ i = .gzwid ∨ i = .szwid v) →
      ∃ w, exec i s = .next (s.over (.err (.transport n)) w))

/-- R120, R121: index phase. -/
def Obligations.IndexPhaseAccessors : Prop :=
  (∀ arg : Word, decodeOp 0x1E arg = .ok .gzph ∧ decodeOp 0x1F arg = .ok (.szph arg)) ∧
  ∀ (s : State) (v : Word),
    (s.AtStart → exec .gzph s = .next (s.sent (packFrame s.build.opcRd s.build.addrUvwCfg 0x00))) ∧
    (∀ b, s.Answered 1 b → ∃ w, exec .gzph s = .next (s.over (.ok (BitVec.ofNat 32 (b.toNat / 64))) w)) ∧
    (s.AtStart → 3 < v.toNat → ∃ w, exec (.szph v) s = .next (s.over (.err .invalidArgument) w)) ∧
    (s.AtStart → v.toNat ≤ 3 →
      exec (.szph v) s = .next (s.sent (packFrame s.build.opcRd s.build.addrUvwCfg 0x00))) ∧
    (∀ b, s.Answered 1 b →
      let w : Byte := (b &&& 0x3F) ||| ((v.extractLsb' 0 2).setWidth 8 <<< 6)
      exec (.szph v) s = .next ({ s with tmp := b, wdl := w }.sent
        (packFrame s.build.opcWr s.build.addrUvwCfg w))) ∧
    (∀ b, s.Answered 2 b → ∃ w, exec (.szph v) s = .next (s.over (.ok 0) w)) ∧
    (∀ n i, s.reply = some (.fail n) → (i = .gzph ∨ i = .szph v) → ∃ w, exec i s = .next (s.over (.err (.transport n)) w))

/-- R122, R123: AB lead direction; DecodeFailure is not reached. -/
def Obligations.AbLeadAccessors : Prop :=
  (∀ arg : Word, decodeOp 0x20 arg = .ok .gdir ∧ decodeOp 0x21 arg = .ok (.sdir arg)) ∧
  ∀ (s : State) (v : Word),
    (s.AtStart → exec .gdir s = .next (s.sent (packFrame s.build.opcRd s.build.addrHyst 0x00))) ∧
    (∀ b, s.Answered 1 b → ∃ w, exec .gdir s = .next (s.over (.ok (if b.getLsbD 3 then 1 else 0)) w)) ∧
    (s.AtStart → 1 < v.toNat → ∃ w, exec (.sdir v) s = .next (s.over (.err .invalidArgument) w)) ∧
    (s.AtStart → v.toNat ≤ 1 → exec (.sdir v) s = .next (s.sent (packFrame s.build.opcRd s.build.addrHyst 0x00))) ∧
    (∀ b, s.Answered 1 b →
      let w : Byte := (b &&& 0xF7) ||| ((v.extractLsb' 0 1).setWidth 8 <<< 3)
      exec (.sdir v) s = .next ({ s with tmp := b, wdl := w }.sent
        (packFrame s.build.opcWr s.build.addrHyst w))) ∧
    (∀ b, s.Answered 2 b → ∃ w, exec (.sdir v) s = .next (s.over (.ok 0) w)) ∧
    (∀ n i, s.reply = some (.fail n) → (i = .gdir ∨ i = .sdir v) → ∃ w, exec i s = .next (s.over (.err (.transport n)) w))

-- The command operations.

/-- R137: ZERO, one exchange, no settle wait. The answer to its frame moves ZERO_STATE from Sent to Acknowledged on 0x55 and to
Failed on any other byte and on a failure; ZERO then ends with the matching response. That the state moves in the step of the
answer is log entry 13, and that no register of DEV is known after a ZERO frame the device acted on is log entry 6 (R145
leaves open what it changes). -/
def Obligations.ZeroSendsAndJudgesTheAcknowledgement : Prop :=
  (∀ arg : Word, decodeOp 0x30 arg = .ok .zero) ∧
  ∀ s : State,
    (s.AtStart → exec .zero s = .next ({ s with zeroState := .sent }.sent
      (packFrame s.build.opcZero s.build.cmdAddr s.build.cmdData))) ∧
    (s.Answered 1 0x55 → ∃ w, exec .zero s = .next (s.over (.ok 0) w)) ∧
    (s.build.Ok → s.pins.xrspValid = true → s.pins.device ≠ .ideal → s.zeroState = .sent →
      exec (.wireZero s.build.cmdAddr s.build.cmdData) s = .next { s.answeredBy s.onWires with
        zeroState := if s.onWires = .ok 0x55 then .acknowledged else .failed,
        dev := if s.pins.device = .acts then [] else s.dev }) ∧
    (∀ b, b ≠ 0x55 → s.Answered 1 b → ∃ w, exec .zero s = .next (s.over (.err .unexpectedAcknowledgement) w)) ∧
    (∀ n, s.reply = some (.fail n) → ∃ w, exec .zero s = .next (s.over (.err (.transport n)) w))

/-- R139: PROG. The answer to its frame moves PROG_STATE as ZERO_STATE; an acknowledged PROG waits in Settle until
settle-elapsed, and the move after the wait ends it Ok(0); with any other answer it ends at once, without a wait. The path Run,
Settle, Run, Done is R139's and the vectors', against two rows of R140 (log entry 15); that the state moves in the step of the
answer is log entry 13; that no register of DEV is known after a PROG frame the device acted on is log entry 6. -/
def Obligations.ProgSendsAndWaitsToSettle : Prop :=
  (∀ arg : Word, decodeOp 0x31 arg = .ok .prog) ∧
  ∀ s : State,
    (s.AtStart → exec .prog s = .next ({ s with progState := .sent }.sent
      (packFrame s.build.opcProg s.build.cmdAddr s.build.cmdData))) ∧
    (s.build.Ok → s.pins.xrspValid = true → s.pins.device ≠ .ideal → s.progState = .sent →
      exec (.wireProg s.build.cmdAddr s.build.cmdData) s = .next { s.answeredBy s.onWires with
        progState := if s.onWires = .ok 0x55 then .acknowledged else .failed,
        dev := if s.pins.device = .acts then [] else s.dev }) ∧
    (s.Answered 1 0x55 → exec .prog s = .next { s with seq := .settle, reply := none }) ∧
    (s.pins.reset = false → s.seq = .settle → step s = .next { s with
      seq := if s.pins.settleElapsed then .run else .settle, pins := s.env.head?.getD {}, env := s.env.tail }) ∧
    (∀ b, b ≠ 0x55 → s.Answered 1 b → ∃ w, exec .prog s = .next (s.over (.err .unexpectedAcknowledgement) w)) ∧
    (s.stepCount = 1 → s.reply = none → ∃ w, exec .prog s = .next (s.over (.ok 0) w)) ∧
    (∀ n, s.reply = some (.fail n) → ∃ w, exec .prog s = .next (s.over (.err (.transport n)) w))

/-- R142: for both commands the operation ends Ok iff the exchange succeeded and rx = 0x55; a failed exchange is
TransportError whatever the byte on the wires, any other byte UnexpectedAcknowledgement. -/
def Obligations.CommandSucceedsIffAcknowledged : Prop :=
  ∀ (s : State) (i : Instr) (b : Byte) (fail : Bool) (n : Nat) (m : DeviceMove), s.build.Ok → s.busy = false →
    (i = .zero ∨ i = .prog) → m ≠ .ideal →
    (let answer : Pins := { xrspValid := true, xrspData := b, xrspFail := fail, xrspInfo := n, device := m }
     ∃ t, serve (requestWord i) [{}, answer, {}, { settleElapsed := true }, {}] s = .next t ∧ t.seq = .done ∧
      (t.rsp = .ok 0 ↔ fail = false ∧ b = 0x55) ∧
      (fail = true → t.rsp = .err (.transport (n % 2 ^ s.build.terrW))) ∧
      (fail = false → b ≠ 0x55 → t.rsp = .err .unexpectedAcknowledgement))

/-- R144: ZERO touches only ZERO_STATE, PROG only PROG_STATE, no other operation and no other frame touches either. -/
def Obligations.CommandStatesAreIndependent : Prop :=
  ∀ (i : Instr) (s t : State), exec i s = .next t →
    ((i ≠ .zero ∧ ∀ a b, i ≠ .wireZero a b) → t.zeroState = s.zeroState) ∧
    ((i ≠ .prog ∧ ∀ a b, i ≠ .wireProg a b) → t.progState = s.progState)

-- Laws of all operations.

/-- The frame of the twenty-five operations (R13, R16, R45, R149): no move of an operation changes the build, the device, the
request latch, STEP, the pins or the other command state; RSP changes only when the operation ends; a working register
changes only in the operations that own it or when the operation ends. That the request latch stays at the end is log entry 19. -/
def Obligations.OperationFrame : Prop :=
  ∀ (i : Instr) (s t : State), i.isWire = false → exec i s = .next t →
    t.build = s.build ∧ t.dev = s.dev ∧ (∀ a, Memory.read t.dev a = Memory.read s.dev a) ∧ t.draws = s.draws ∧
    t.reqOp = s.reqOp ∧ t.reqArg = s.reqArg ∧ t.stepCount = s.stepCount ∧ t.pins = s.pins ∧ t.env = s.env ∧
    (i ≠ .zero → t.zeroState = s.zeroState) ∧ (i ≠ .prog → t.progState = s.progState) ∧
    ((t.seq = .done ∧ t.rsp ≠ .absent ∧ t.xout = s.xout) ∨
     (t.rsp = s.rsp ∧ (t.seq = .waitX ∨ t.xout = s.xout) ∧
      (i ≠ .rdangle → t.composite = s.composite ∧ t.crcRx = s.crcRx ∧ t.crc = s.crc) ∧
      ((∀ v, i ≠ .sres v) → (∀ v, i ≠ .szpos v) → t.wdh = s.wdh) ∧
      ((i = .rdangle ∨ i = .zero ∨ i = .prog ∨ i = .guid ∨ i = .gabz ∨ i = .gswap ∨ i = .gzedge ∨ i = .gzwid ∨
          i = .gzph ∨ i = .gdir ∨ (∃ a, i = .rdreg a) ∨ (∃ a d, i = .wrreg a d) ∨ (∃ v, i = .suid v)) →
        t.tmp = s.tmp ∧ t.wdl = s.wdl) ∧
      ((i = .gres ∨ i = .gzpos) → t.wdl = s.wdl)))

/-- R57, R71, R128, R153: an argument outside its documented range ends the operation with InvalidArgument before any exchange:
STEP is 0, XOUT untouched; and no operation ends so in any other place. SABZ and SSWAP accept every v; ignored bits have no
effect. -/
def Obligations.ArgumentOutOfRangeIsRefused : Prop :=
  (∀ (s : State) (i : Instr), s.AtStart → badArgument s.build i →
    ∃ w, exec i s = .next (s.over (.err .invalidArgument) w) ∧ (s.over (.err .invalidArgument) w).stepCount = 0 ∧
      (s.over (.err .invalidArgument) w).xout = s.xout) ∧
  (∀ (s t : State) (i : Instr), i.isWire = false → s.rsp = .absent → exec i s = .next t → t.rsp = .err .invalidArgument →
    s.AtStart ∧ badArgument s.build i ∧ t.stepCount = 0 ∧ t.xout = s.xout) ∧
  (∀ (s : State) (v : Word), s.AtStart → ∀ i, (i = .sabz v ∨ i = .sswap v) →
    exec i s = .next (s.sent (packFrame s.build.opcRd s.build.addrAbzResL 0x00))) ∧
  (∀ a b : Word, a.extractLsb' 0 12 = b.extractLsb' 0 12 → decodeOp 0x01 a = decodeOp 0x01 b) ∧
  (∀ a b : Word, a.extractLsb' 0 20 = b.extractLsb' 0 20 → decodeOp 0x02 a = decodeOp 0x02 b) ∧
  (∀ a b : Word, a.extractLsb' 0 28 = b.extractLsb' 0 28 → decodeOp 0x03 a = decodeOp 0x03 b)

/-- R148: which operation can end in which error, both ways: a cell with X can happen, in a state that meets the invariant with
the operation in hand, and a blank one cannot. In no state at all does an operation end in an error of another kind, but for
the TransportError of a failed answer in hand. An op code outside the table ends in IllegalOperation only. -/
def Obligations.ErrorTable : Prop :=
  (∀ (c : Config) (i : Instr) (k : ErrKind), c.Ok → i.isWire = false →
    ((∃ s t e, s.build = c ∧ s.Inv ∧ s.seq = .run ∧ s.inHand = .ok i ∧ exec i s = .next t ∧ t.rsp = .err e ∧ e.kind = k) ↔
      mayEndIn c i k)) ∧
  (∀ (i : Instr) (s t : State) (e : OpError), i.isWire = false → s.rsp = .absent → exec i s = .next t → t.rsp = .err e →
    mayEndIn s.build i e.kind ∨ ∃ n, s.reply = some (.fail n) ∧ e = .transport n) ∧
  (∀ (s t : State) (d : DecodeError), s.pins.reset = false → s.seq = .run → decodeOp s.reqOp s.reqArg = .error d →
    step s = .next t → t.rsp = .err .illegalOperation)

/-- R105, R149, R151: a failed exchange ends whatever operation asked for it with TransportError and the payload unchanged,
before any byte is looked at; the device, STEP and the command states stay as they are. -/
def Obligations.TransportErrorEndsEveryOperation : Prop :=
  ∀ (s : State) (i : Instr) (n : Nat), i.isWire = false → i ≠ .burst → s.reply = some (.fail n) →
    (∃ w, exec i s = .next (s.over (.err (.transport n)) w))

/-- R43, R48, R49: an operation in SEQ = Run that starts an exchange at STEP = k starts the k-th of its table, and one that ends
Ok has completed the whole table. -/
def Obligations.ExchangesFollowTheTable : Prop :=
  ∀ (i : Instr) (s t : State), s.Inv → s.seq = .run → s.inHand = .ok i → exec i s = .next t →
    (t.seq = .waitX → ∃ x f, (i.exchanges s.build)[s.stepCount.toNat]? = some x ∧ t.xout = some f ∧ x.carriedBy s.build f) ∧
    (∀ v, t.rsp = .ok v → s.stepCount.toNat = (i.exchanges s.build).length)

-- Encoding.

/-- R53, R57, R58: decoding what the encoder writes gives the instruction back, for every instruction, every operand and
every build with distinct command codes. -/
def Obligations.DecodeOfEncodeIsTheInstruction : Prop :=
  ∀ (c : Config) (i : Instr), c.opcs.Nodup → decode c (encode c i) = .ok i

/-- R57, R72: the encoder gives back the word a decoded instruction came from, ignored bits cleared: all of a frame, and of a
request the op code and the bits of its form. -/
def Obligations.EncodeOfDecodeIsTheWord : Prop :=
  ∀ (c : Config) (i : Instr),
    (∀ f, decodeFrame c f = .ok i → encode c i = .frame f) ∧
    (∀ w, decodeRequest w = .ok i → ∃ w', encode c i = .request w' ∧ requestOp w' = requestOp w ∧
      requestArg w' = requestArg w &&& formMask i)

/-- Words written out from R56 and R73 decode to the instructions they stand for. -/
def Obligations.WrittenOutWordsDecode : Prop :=
  decodeTableWord 24 0b0011_000000001010_00000000 = some (.wireRd 0x00A 0x00) ∧
  decodeTableWord 24 0b0110_000000000001_01011010 = some (.wireWr 0x001 0x5A) ∧
  decodeTableWord 24 0b0101_000000000000_00000000 = some (.wireZero 0x000 0x00) ∧
  decodeTableWord 24 0b1100_000000000000_00000000 = some (.wireProg 0x000 0x00) ∧
  decodeTableWord 40 0x01_0000000A = some (.rdreg 0x00A) ∧
  decodeTableWord 40 0x02_0000015A = some (.wrreg 0x001 0x5A) ∧
  decodeTableWord 40 0x03_00800A08 = some (.rmw 0x00A 0x08 0x08) ∧
  decodeTableWord 40 0x08_00000000 = some .rdangle ∧
  decodeTableWord 40 0x13_00000400 = some (.sres 1024) ∧
  decodeTableWord 40 0x19_005A0000 = some (.szpos 0x005A0000)

-- The codec's arithmetic.

/-- R60: extract after insert gives the value, and insert keeps the foreign bits, for every run of adjacent bits. -/
def Obligations.BitfieldInsertAndExtract : Prop :=
  ∀ (shift width : Nat) (b v : Byte), shift + width ≤ 8 → v.toNat < 2 ^ width →
    let f : Bitfield := { mask := BitVec.ofNat 8 ((2 ^ width - 1) * 2 ^ shift), shift := shift }
    f.extract (f.insert b v) = v ∧ f.insert b v &&& ~~~f.mask = b &&& ~~~f.mask

/-- R62: the fields of the two shared low registers are disjoint and cover them; every field is a run of its width. -/
def Obligations.BitfieldTable : Prop :=
  (∀ p ∈ [(fieldUserId, 0, 8), (fieldResHi, 0, 8), (fieldResLo, 2, 6), (fieldAbzOff, 1, 1), (fieldAbSwap, 0, 1),
      (fieldZposHi, 0, 8), (fieldZposLo, 4, 4), (fieldZEdge, 3, 1), (fieldZWidth, 0, 3), (fieldZPhase, 6, 2),
      (fieldAbLead, 3, 1), (fieldAngHi, 0, 8), (fieldAngMid, 0, 8), (fieldAngLo, 3, 5), (fieldStatus, 0, 3),
      (fieldAngCrc, 0, 8)],
    p.1.shift = p.2.1 ∧ p.1.mask = BitVec.ofNat 8 ((2 ^ p.2.2 - 1) * 2 ^ p.2.1)) ∧
  fieldResLo.mask &&& fieldAbzOff.mask = 0 ∧ fieldResLo.mask &&& fieldAbSwap.mask = 0 ∧
  fieldAbzOff.mask &&& fieldAbSwap.mask = 0 ∧ fieldResLo.mask ||| fieldAbzOff.mask ||| fieldAbSwap.mask = 0xFF ∧
  fieldZposLo.mask &&& fieldZEdge.mask = 0 ∧ fieldZposLo.mask &&& fieldZWidth.mask = 0 ∧
  fieldZEdge.mask &&& fieldZWidth.mask = 0 ∧ fieldZposLo.mask ||| fieldZEdge.mask ||| fieldZWidth.mask = 0xFF

/-- R63, R64: pack and unpack of the resolution, s = ppr - 1; `decode(encode(ppr)) == ppr` for every ppr in 1 to 16384 over every
old low byte, whose bits 1..0 are kept; every pair of bytes decodes to a legal ppr. -/
def Obligations.ResolutionPacksAndUnpacks : Prop :=
  (∀ (ppr : Word) (old : Byte), 1 ≤ ppr.toNat → ppr.toNat ≤ 16384 →
    resHigh (pprStored ppr) = BitVec.ofNat 8 ((ppr.toNat - 1) / 64) ∧
    resLow (pprStored ppr) old = BitVec.ofNat 8 ((ppr.toNat - 1) % 64 * 4) ||| (old &&& 0x03) ∧
    pprOf (resHigh (pprStored ppr)) (resLow (pprStored ppr) old) = ppr ∧
    resLow (pprStored ppr) old &&& 0x03 = old &&& 0x03) ∧
  (∀ h l : Byte, (pprOf h l).toNat = h.toNat * 64 + l.toNat / 4 + 1 ∧ 1 ≤ (pprOf h l).toNat ∧ (pprOf h l).toNat ≤ 16384)

/-- R65, R66: pack and unpack of the zero position code: every 12-bit code goes through over every old low byte, whose bits 3..0
are kept. -/
def Obligations.ZeroCodePacksAndUnpacks : Prop :=
  (∀ (z : BitVec 12) (old : Byte),
    zposHigh z = BitVec.ofNat 8 (z.toNat / 16) ∧
    zposLow z old = BitVec.ofNat 8 (z.toNat % 16 * 16) ||| (old &&& 0x0F) ∧
    zposUnpack (zposHigh z) (zposLow z old) = z ∧ zposLow z old &&& 0x0F = old &&& 0x0F) ∧
  (∀ h l : Byte, (zposUnpack h l).toNat = h.toNat * 16 + l.toNat / 16)

/-- R67: D is accepted iff 0 <= D <= S, S = 360 * 2^DEG_FRAC; the code is floor((D * 4095 + S / 2) / S), that is the nearest
integer to D * 4095 / S, a tie going up (12° gives 137, 180° gives 2048); it is at most 4095, 0 at 0° and 4095 at 360°. -/
def Obligations.ZeroCodeIsRoundedHalfAwayFromZero : Prop :=
  (∀ (n : Nat) (d : Word), degOk n d = true ↔ 0 ≤ d.toInt ∧ d.toInt ≤ 360 * 2 ^ n) ∧
  (degToCode 16 0x000C0000).toNat = 137 ∧ (degToCode 16 0x00B40000).toNat = 2048 ∧
  ∀ (n : Nat) (d : Word), 0 ≤ d.toInt → d.toInt ≤ 360 * 2 ^ n →
    (degToCode n d).toNat = (d.toNat * 4095 + 360 * 2 ^ n / 2) / (360 * 2 ^ n) ∧ (degToCode n d).toNat ≤ 4095 ∧
    2 * (360 * 2 ^ n) * (degToCode n d).toNat ≤ 2 * d.toNat * 4095 + 360 * 2 ^ n ∧
    2 * d.toNat * 4095 + 360 * 2 ^ n < 2 * (360 * 2 ^ n) * ((degToCode n d).toNat + 1) ∧
    (d = 0 → (degToCode n d).toNat = 0) ∧ (d.toInt = 360 * 2 ^ n → (degToCode n d).toNat = 4095)

/-- R95, R96, R99: the three slices under both readings, and the worked example of R102, which the spec derives itself. -/
def Obligations.CrcSlices : Prop :=
  (∀ c : Composite, crcSlice1 (crcSource .composite24 c) = c.extractLsb' 13 8 ∧
    crcSlice2 (crcSource .composite24 c) = c.extractLsb' 5 8 ∧
    crcSlice3 (crcSource .composite24 c) = c.extractLsb' 0 5 ++ (0 : BitVec 3)) ∧
  (∀ c : Composite, crcSlice1 (crcSource .rawAngle21 c) = c.extractLsb' 16 8 ∧
    crcSlice2 (crcSource .rawAngle21 c) = c.extractLsb' 8 8 ∧
    crcSlice3 (crcSource .rawAngle21 c) = c.extractLsb' 3 5 ++ (0 : BitVec 3)) ∧
  crc8Angle .composite24 0x1A2B3C = 0x5B ∧ crc8Angle .rawAngle21 0x1A2B3C = 0xB4

/-- R98: the laws of the validator under the default reading: (a) zero, (b) linear, (c) single bits, (d) c[20:0] only, (e) any
single-bit change of c[20:0] is seen, (f) a change confined to c[23:21] never is. -/
def Obligations.CrcLaws : Prop :=
  crc8Angle .composite24 0 = 0 ∧
  (∀ x y a b : Byte, crc8Update (x ^^^ y) (a ^^^ b) = crc8Update x a ^^^ crc8Update y b) ∧
  (∀ c d : Composite, crc8Angle .composite24 (c ^^^ d) = crc8Angle .composite24 c ^^^ crc8Angle .composite24 d) ∧
  ((List.range 8).map fun k => crc8Update 0 (BitVec.ofNat 8 (2 ^ k))) = [0x07, 0x0E, 0x1C, 0x38, 0x70, 0xE0, 0xC7, 0x89] ∧
  (∀ c : Composite, crc8Angle .composite24 c = crc8Angle .composite24 (c &&& 0x1FFFFF)) ∧
  (∀ (c : Composite) (k : Nat), k < 21 →
    crc8Angle .composite24 (c ^^^ BitVec.ofNat 24 (2 ^ k)) ≠ crc8Angle .composite24 c) ∧
  (∀ c d : Composite, d &&& 0x1FFFFF = 0 → crc8Angle .composite24 (c ^^^ d) = crc8Angle .composite24 c)

-- Invariants and whole runs.

/-- The reset state meets the invariant. -/
def Obligations.ResetMeetsTheInvariant : Prop := State.reset.Inv

/-- THE INVARIANT IS KEPT (R13 to R23, R43, R138, R140): from every state that meets it, reachable or not, whatever the pins. -/
def Obligations.StepKeepsTheInvariant : Prop := ∀ s t : State, s.Inv → step s = .next t → t.Inv

/-- NO STOP (R15): from every state that meets the invariant a step answers a next state, so no operation leaves its line. -/
def Obligations.NoStepFromTheInvariantStops : Prop := ∀ s : State, s.Inv → ∃ t, step s = .next t

/-- R7, R35: no step changes the build, and every step keeps DEV in canonical form, in every state. -/
def Obligations.StepKeepsBuildAndMemoryForm : Prop :=
  ∀ s t : State, step s = .next t → t.build = s.build ∧ (Memory.wf s.dev → Memory.wf t.dev)

/-- R183, R173: an operation is over within ten steps if the environment answers every exchange, raises settle-elapsed and does
not reset; what it answers is free. -/
def Obligations.EveryOperationEndsWithinTenSteps : Prop :=
  ∀ (s : State) (ps : List Pins), s.Inv → s.busy = true → ps.length = 10 →
    (∀ p ∈ ps, p.reset = false ∧ p.reqValid = false ∧ p.xrspValid = true ∧ p.settleElapsed = true) →
    ∃ t, runWith ps s = .next t ∧ t.seq = .done ∧ t.rsp ≠ .absent

/-- R82: the read-modify-write law against the ideal device. -/
def Obligations.ReadModifyWriteLaw : Prop :=
  ∀ (s : State) (a : Addr) (m nb b : Byte), s.build.Ok → s.busy = false → a ≤ 0x1FF → nb &&& ~~~m = 0 →
    Memory.read s.dev a.toNat = some b →
    ∃ t x, serveIdeal (requestWord (.rmw a m nb)) s = .next t ∧ t.seq = .done ∧ t.rsp = .ok 0 ∧
      Memory.read t.dev a.toNat = some x ∧ x &&& m = nb ∧ x &&& ~~~m = b &&& ~~~m ∧
      ∀ n, n ≠ a.toNat → Memory.read t.dev n = Memory.read s.dev n

/-- R126: a setter, then the matching getter, against the ideal device. -/
def Obligations.SettersAndGettersRoundTrip : Prop :=
  ∀ (s : State) (i g : Instr) (r : Word), s.build.Ok → s.busy = false →
    ((∃ v, i = .sres v ∧ g = .gres ∧ r = v ∧ 1 ≤ v.toNat ∧ v.toNat ≤ 16384) ∨
     (∃ d, i = .szpos d ∧ g = .gzpos ∧ 0 ≤ d.toInt ∧ d.toInt ≤ 360 * 2 ^ s.build.degFrac ∧
        r = BitVec.ofNat 32 ((d.toNat * 4095 + 360 * 2 ^ s.build.degFrac / 2) / (360 * 2 ^ s.build.degFrac))) ∨
     (∃ v, i = .suid v ∧ g = .guid ∧ r = v ∧ v.toNat ≤ 255) ∨
     (∃ v, i = .szedge v ∧ g = .gzedge ∧ r = v ∧ v.toNat ≤ 1) ∨
     (∃ v, i = .szwid v ∧ g = .gzwid ∧ r = v ∧ v.toNat ≤ 7) ∨
     (∃ v, i = .szph v ∧ g = .gzph ∧ r = v ∧ v.toNat ≤ 3) ∨
     (∃ v, i = .sdir v ∧ g = .gdir ∧ r = v ∧ v.toNat ≤ 1) ∨
     (∃ v, i = .sabz v ∧ g = .gabz ∧ r = if v = 0 then 0 else 1) ∨
     (∃ v, i = .sswap v ∧ g = .gswap ∧ r = if v = 0 then 0 else 1)) →
    ∃ t u, serveIdeal (requestWord i) s = .next t ∧ t.rsp = .ok 0 ∧
      serveIdeal (requestWord g) t = .next u ∧ u.rsp = .ok r

/-- R127: no setter disturbs a co-resident field, against the ideal device whose registers hold known bytes: after any setter
(refused ones too) every getter of a different parameter returns what it returned before; SZPH leaves bits 5..0 of UVW_CFG and
SDIR bits 7..4 and 2..0 of HYST. -/
def Obligations.NoSetterDisturbsAnotherField : Prop :=
  ∀ (s : State) (i g : Instr) (p q : Param), s.build.Ok → s.busy = false → setterOf i = some p → getterOf g = some q →
    p ≠ q → (∀ a ∈ s.build.registers, (Memory.read s.dev a.toNat).isSome) →
    ∃ t u u' v, serveIdeal (requestWord i) s = .next t ∧ serveIdeal (requestWord g) s = .next u ∧
      serveIdeal (requestWord g) t = .next u' ∧ u.rsp = .ok v ∧ u'.rsp = .ok v ∧
      (∀ x y, p = .zPhase → Memory.read s.dev s.build.addrUvwCfg.toNat = some x →
        Memory.read t.dev s.build.addrUvwCfg.toNat = some y → y &&& 0x3F = x &&& 0x3F) ∧
      (∀ x y, p = .abLead → Memory.read s.dev s.build.addrHyst.toNat = some x →
        Memory.read t.dev s.build.addrHyst.toNat = some y → y &&& 0xF7 = x &&& 0xF7)

/-- R124, R178: a two-register setter, SRES or SZPOS, that fails at exchange k + 1 leaves the device as the completed exchanges
left it, under both orders, the failed frame having been acted on or not. -/
def Obligations.FailedPairSetterLeavesTheCompletedExchanges : Prop :=
  ∀ (s : State) (i : Instr) (aH aL : Addr) (high low old : Byte) (k n : Nat) (m : DeviceMove),
    s.build.Ok → s.busy = false → m ≠ .ideal → k < 3 → Memory.read s.dev aL.toNat = some old →
    ((∃ v, i = .sres v ∧ aH = s.build.addrAbzResH ∧ aL = s.build.addrAbzResL ∧ 1 ≤ v.toNat ∧ v.toNat ≤ 16384 ∧
        high = BitVec.ofNat 8 ((v.toNat - 1) / 64) ∧
        low = BitVec.ofNat 8 ((v.toNat - 1) % 64 * 4) ||| (old &&& 0x03)) ∨
     (∃ d z, i = .szpos d ∧ aH = s.build.addrZeroH ∧ aL = s.build.addrZeroL ∧ 0 ≤ d.toInt ∧
        d.toInt ≤ 360 * 2 ^ s.build.degFrac ∧
        z = (d.toNat * 4095 + 360 * 2 ^ s.build.degFrac / 2) / (360 * 2 ^ s.build.degFrac) ∧
        high = BitVec.ofNat 8 (z / 16) ∧ low = BitVec.ofNat 8 (z % 16 * 16) ||| (old &&& 0x0F))) →
    (let good : Pins := { xrspValid := true, device := .ideal }
     let bad : Pins := { xrspValid := true, xrspFail := true, xrspInfo := n, device := m }
     let highNew := Memory.write s.dev aH.toNat high
     let bothNew := Memory.write highNew aL.toNat low
     let afterExchanges : Nat → Memory := fun j =>
       match s.build.rmw2Order with
       | .readFirst => if j ≤ 1 then s.dev else if j = 2 then highNew else bothNew
       | .writeHighFirst => if j = 0 then s.dev else if j ≤ 2 then highNew else bothNew
     ∃ t, serve (requestWord i) ((List.replicate k [{}, good]).flatten ++ [{}, bad, {}]) s = .next t ∧
      t.seq = .done ∧ t.rsp = .err (.transport (n % 2 ^ s.build.terrW)) ∧ t.stepCount.toNat = k ∧
      t.dev = afterExchanges (if m = .acts then k + 1 else k))

/-- R71, R43 (what well-formed means is the model's choice, log entry 23): at its start a well-formed operation sends the first
exchange of its table, and one that is not well-formed has no exchanges and is refused, BURST with IllegalOperation and every
other with InvalidArgument. -/
def Obligations.WellFormedMeansNotRefused : Prop :=
  ∀ (s : State) (i : Instr), i.isWire = false → s.AtStart →
    (i.wellFormed s.build = true → ∃ x f t, (i.exchanges s.build).head? = some x ∧ x.carriedBy s.build f ∧
      exec i s = .next t ∧ t.seq = .waitX ∧ t.xout = some f) ∧
    (i.wellFormed s.build = false → i.exchanges s.build = [] ∧
      ∃ w, exec i s = .next (s.over (.err (if i = .burst then .illegalOperation else .invalidArgument)) w))

/-- R34, U7: "a model must not let any rule read the register before a write". A run from a state that is not busy does not
depend on what the request latch and the working registers hold there: with any other values the same run answers the same
state, those registers apart. -/
def Obligations.NoRuleReadsARegisterBeforeItsWrite : Prop :=
  ∀ (s t : State) (ps : List Pins) (w : Work) (op : Byte) (arg : Word), s.busy = false → runWith ps s = .next t →
    ∃ w' op' arg', runWith ps ((s.withWork w).withRequest op arg) = .next ((t.withWork w').withRequest op' arg')
end

