-- ==== Sys2Proof/Laws/Decode.lean ====
section
/-! SUPPORT. The small lemmas of the encodings: every field of a packed word reads back, and a word is its fields. -/

namespace Sys2Proof

@[simp] theorem frameCmd_packFrame (c : Cmd) (a : Addr) (t : Byte) : frameCmd (packFrame c a t) = c := by
  unfold frameCmd packFrame; ext i h; simp; interval_cases i <;> simp

@[simp] theorem frameAddr_packFrame (c : Cmd) (a : Addr) (t : Byte) : frameAddr (packFrame c a t) = a := by
  unfold frameAddr packFrame; ext i h; simp; interval_cases i <;> simp

@[simp] theorem frameTx_packFrame (c : Cmd) (a : Addr) (t : Byte) : frameTx (packFrame c a t) = t := by
  unfold frameTx packFrame; ext i h; simp; interval_cases i <;> simp

@[simp] theorem packFrame_fields (f : Frame) : packFrame (frameCmd f) (frameAddr f) (frameTx f) = f := by
  unfold frameCmd frameAddr frameTx packFrame
  ext i h; simp; interval_cases i <;> simp

@[simp] theorem requestOp_packRequest (o : Byte) (a : Word) : requestOp (packRequest o a) = o := by
  unfold requestOp packRequest; ext i h; simp; interval_cases i <;> simp

@[simp] theorem requestArg_packRequest (o : Byte) (a : Word) : requestArg (packRequest o a) = a := by
  unfold requestArg packRequest; ext i h; simp; interval_cases i <;> simp

@[simp] theorem packRequest_fields (w : ReqWord) : packRequest (requestOp w) (requestArg w) = w := by
  unfold requestOp requestArg packRequest
  ext i h; simp; interval_cases i <;> simp

@[simp] theorem argA_addr (a : Addr) : (argA a).extractLsb' 0 12 = a := by
  unfold argA; ext i h; simp; interval_cases i <;> simp

@[simp] theorem argAd_addr (a : Addr) (d : Byte) : (argAd a d).extractLsb' 8 12 = a := by
  unfold argAd; ext i h; simp; interval_cases i <;> simp

@[simp] theorem argAd_data (a : Addr) (d : Byte) : (argAd a d).extractLsb' 0 8 = d := by
  unfold argAd; ext i h; simp; interval_cases i <;> simp

@[simp] theorem argMad_addr (a : Addr) (m n : Byte) : (argMad a m n).extractLsb' 8 12 = a := by
  unfold argMad; ext i h; simp; interval_cases i <;> simp

@[simp] theorem argMad_mask (a : Addr) (m n : Byte) : (argMad a m n).extractLsb' 20 8 = m := by
  unfold argMad; ext i h; simp; interval_cases i <;> simp

@[simp] theorem argMad_newBits (a : Addr) (m n : Byte) : (argMad a m n).extractLsb' 0 8 = n := by
  unfold argMad; ext i h; simp; interval_cases i <;> simp

/-- An operation is decoded from its op code and argument. -/
theorem decodeRequest_packRequest (o : Byte) (a : Word) : decodeRequest (packRequest o a) = decodeOp o a := by
  simp [decodeRequest]

/-- A frame with one of five distinct command codes decodes to that command. -/
theorem decodeFrame_packFrame (c : Config) (h : c.opcs.Nodup) (a : Addr) (t : Byte) :
    decodeFrame c (packFrame c.opcRd a t) = .ok (.wireRd a t) ∧
    decodeFrame c (packFrame c.opcWr a t) = .ok (.wireWr a t) ∧
    decodeFrame c (packFrame c.opcZero a t) = .ok (.wireZero a t) ∧
    decodeFrame c (packFrame c.opcProg a t) = .ok (.wireProg a t) ∧
    decodeFrame c (packFrame c.opcBurst a t) = .ok (.wireBurst a t) := by
  simp only [Config.opcs, List.nodup_cons, List.mem_cons, List.not_mem_nil, or_false, not_or] at h
  obtain ⟨⟨h1, h2, h3, h4⟩, ⟨h5, h6, h7⟩, ⟨h8, h9⟩, h10, -⟩ := h
  simp [decodeFrame, Ne.symm h1, Ne.symm h2, Ne.symm h3, Ne.symm h4, Ne.symm h5, Ne.symm h6, Ne.symm h7, Ne.symm h8,
    Ne.symm h9, Ne.symm h10]

end Sys2Proof
end

