-- ==== Sys2Proof/Laws/State.lean ====
section
/-! SUPPORT. One lemma per field per update of the state, so that no proof unfolds a record update. -/

namespace Sys2Proof.Machine

section
variable (s : State)

@[simp] theorem State.ended_build (r : Rsp) : (s.ended r).build = s.build := rfl
@[simp] theorem State.ended_seq (r : Rsp) : (s.ended r).seq = .done := rfl
@[simp] theorem State.ended_stepCount (r : Rsp) : (s.ended r).stepCount = s.stepCount := rfl
@[simp] theorem State.ended_reqOp (r : Rsp) : (s.ended r).reqOp = s.reqOp := rfl
@[simp] theorem State.ended_reqArg (r : Rsp) : (s.ended r).reqArg = s.reqArg := rfl
@[simp] theorem State.ended_tmp (r : Rsp) : (s.ended r).tmp = 0 := rfl
@[simp] theorem State.ended_wdh (r : Rsp) : (s.ended r).wdh = 0 := rfl
@[simp] theorem State.ended_wdl (r : Rsp) : (s.ended r).wdl = 0 := rfl
@[simp] theorem State.ended_composite (r : Rsp) : (s.ended r).composite = 0 := rfl
@[simp] theorem State.ended_crcRx (r : Rsp) : (s.ended r).crcRx = 0 := rfl
@[simp] theorem State.ended_crc (r : Rsp) : (s.ended r).crc = 0 := rfl
@[simp] theorem State.ended_rsp (r : Rsp) : (s.ended r).rsp = r := rfl
@[simp] theorem State.ended_zeroState (r : Rsp) : (s.ended r).zeroState = s.zeroState := rfl
@[simp] theorem State.ended_progState (r : Rsp) : (s.ended r).progState = s.progState := rfl
@[simp] theorem State.ended_xout (r : Rsp) : (s.ended r).xout = s.xout := rfl
@[simp] theorem State.ended_reply (r : Rsp) : (s.ended r).reply = none := rfl
@[simp] theorem State.ended_pins (r : Rsp) : (s.ended r).pins = s.pins := rfl
@[simp] theorem State.ended_env (r : Rsp) : (s.ended r).env = s.env := rfl
@[simp] theorem State.ended_dev (r : Rsp) : (s.ended r).dev = s.dev := rfl
@[simp] theorem State.ended_draws (r : Rsp) : (s.ended r).draws = s.draws := rfl

@[simp] theorem State.raise_build (e : OpError) : (s.raise e).build = s.build := rfl
@[simp] theorem State.raise_seq (e : OpError) : (s.raise e).seq = .done := rfl
@[simp] theorem State.raise_stepCount (e : OpError) : (s.raise e).stepCount = s.stepCount := rfl
@[simp] theorem State.raise_reqOp (e : OpError) : (s.raise e).reqOp = s.reqOp := rfl
@[simp] theorem State.raise_reqArg (e : OpError) : (s.raise e).reqArg = s.reqArg := rfl
@[simp] theorem State.raise_tmp (e : OpError) : (s.raise e).tmp = 0 := rfl
@[simp] theorem State.raise_wdh (e : OpError) : (s.raise e).wdh = 0 := rfl
@[simp] theorem State.raise_wdl (e : OpError) : (s.raise e).wdl = 0 := rfl
@[simp] theorem State.raise_composite (e : OpError) : (s.raise e).composite = 0 := rfl
@[simp] theorem State.raise_crcRx (e : OpError) : (s.raise e).crcRx = 0 := rfl
@[simp] theorem State.raise_crc (e : OpError) : (s.raise e).crc = 0 := rfl
@[simp] theorem State.raise_rsp (e : OpError) : (s.raise e).rsp = .err e := rfl
@[simp] theorem State.raise_zeroState (e : OpError) : (s.raise e).zeroState = s.zeroState := rfl
@[simp] theorem State.raise_progState (e : OpError) : (s.raise e).progState = s.progState := rfl
@[simp] theorem State.raise_xout (e : OpError) : (s.raise e).xout = s.xout := rfl
@[simp] theorem State.raise_reply (e : OpError) : (s.raise e).reply = none := rfl
@[simp] theorem State.raise_pins (e : OpError) : (s.raise e).pins = s.pins := rfl
@[simp] theorem State.raise_env (e : OpError) : (s.raise e).env = s.env := rfl
@[simp] theorem State.raise_dev (e : OpError) : (s.raise e).dev = s.dev := rfl
@[simp] theorem State.raise_draws (e : OpError) : (s.raise e).draws = s.draws := rfl

@[simp] theorem State.returnOk_build (v : Word) : (s.returnOk v).build = s.build := rfl
@[simp] theorem State.returnOk_seq (v : Word) : (s.returnOk v).seq = .done := rfl
@[simp] theorem State.returnOk_stepCount (v : Word) : (s.returnOk v).stepCount = s.stepCount := rfl
@[simp] theorem State.returnOk_reqOp (v : Word) : (s.returnOk v).reqOp = s.reqOp := rfl
@[simp] theorem State.returnOk_reqArg (v : Word) : (s.returnOk v).reqArg = s.reqArg := rfl
@[simp] theorem State.returnOk_tmp (v : Word) : (s.returnOk v).tmp = 0 := rfl
@[simp] theorem State.returnOk_wdh (v : Word) : (s.returnOk v).wdh = 0 := rfl
@[simp] theorem State.returnOk_wdl (v : Word) : (s.returnOk v).wdl = 0 := rfl
@[simp] theorem State.returnOk_composite (v : Word) : (s.returnOk v).composite = 0 := rfl
@[simp] theorem State.returnOk_crcRx (v : Word) : (s.returnOk v).crcRx = 0 := rfl
@[simp] theorem State.returnOk_crc (v : Word) : (s.returnOk v).crc = 0 := rfl
@[simp] theorem State.returnOk_rsp (v : Word) : (s.returnOk v).rsp = .ok v := rfl
@[simp] theorem State.returnOk_zeroState (v : Word) : (s.returnOk v).zeroState = s.zeroState := rfl
@[simp] theorem State.returnOk_progState (v : Word) : (s.returnOk v).progState = s.progState := rfl
@[simp] theorem State.returnOk_xout (v : Word) : (s.returnOk v).xout = s.xout := rfl
@[simp] theorem State.returnOk_reply (v : Word) : (s.returnOk v).reply = none := rfl
@[simp] theorem State.returnOk_pins (v : Word) : (s.returnOk v).pins = s.pins := rfl
@[simp] theorem State.returnOk_env (v : Word) : (s.returnOk v).env = s.env := rfl
@[simp] theorem State.returnOk_dev (v : Word) : (s.returnOk v).dev = s.dev := rfl
@[simp] theorem State.returnOk_draws (v : Word) : (s.returnOk v).draws = s.draws := rfl

@[simp] theorem State.issue_build (cmd : Cmd) (addr : Addr) (tx : Byte) : (s.issue cmd addr tx).build = s.build := rfl
@[simp] theorem State.issue_seq (cmd : Cmd) (addr : Addr) (tx : Byte) : (s.issue cmd addr tx).seq = .waitX := rfl
@[simp] theorem State.issue_stepCount (cmd : Cmd) (addr : Addr) (tx : Byte) : (s.issue cmd addr tx).stepCount = s.stepCount := rfl
@[simp] theorem State.issue_reqOp (cmd : Cmd) (addr : Addr) (tx : Byte) : (s.issue cmd addr tx).reqOp = s.reqOp := rfl
@[simp] theorem State.issue_reqArg (cmd : Cmd) (addr : Addr) (tx : Byte) : (s.issue cmd addr tx).reqArg = s.reqArg := rfl
@[simp] theorem State.issue_tmp (cmd : Cmd) (addr : Addr) (tx : Byte) : (s.issue cmd addr tx).tmp = s.tmp := rfl
@[simp] theorem State.issue_wdh (cmd : Cmd) (addr : Addr) (tx : Byte) : (s.issue cmd addr tx).wdh = s.wdh := rfl
@[simp] theorem State.issue_wdl (cmd : Cmd) (addr : Addr) (tx : Byte) : (s.issue cmd addr tx).wdl = s.wdl := rfl
@[simp] theorem State.issue_composite (cmd : Cmd) (addr : Addr) (tx : Byte) : (s.issue cmd addr tx).composite = s.composite := rfl
@[simp] theorem State.issue_crcRx (cmd : Cmd) (addr : Addr) (tx : Byte) : (s.issue cmd addr tx).crcRx = s.crcRx := rfl
@[simp] theorem State.issue_crc (cmd : Cmd) (addr : Addr) (tx : Byte) : (s.issue cmd addr tx).crc = s.crc := rfl
@[simp] theorem State.issue_rsp (cmd : Cmd) (addr : Addr) (tx : Byte) : (s.issue cmd addr tx).rsp = s.rsp := rfl
@[simp] theorem State.issue_zeroState (cmd : Cmd) (addr : Addr) (tx : Byte) : (s.issue cmd addr tx).zeroState = s.zeroState := rfl
@[simp] theorem State.issue_progState (cmd : Cmd) (addr : Addr) (tx : Byte) : (s.issue cmd addr tx).progState = s.progState := rfl
@[simp] theorem State.issue_xout (cmd : Cmd) (addr : Addr) (tx : Byte) : (s.issue cmd addr tx).xout = some (packFrame cmd addr tx) := rfl
@[simp] theorem State.issue_reply (cmd : Cmd) (addr : Addr) (tx : Byte) : (s.issue cmd addr tx).reply = none := rfl
@[simp] theorem State.issue_pins (cmd : Cmd) (addr : Addr) (tx : Byte) : (s.issue cmd addr tx).pins = s.pins := rfl
@[simp] theorem State.issue_env (cmd : Cmd) (addr : Addr) (tx : Byte) : (s.issue cmd addr tx).env = s.env := rfl
@[simp] theorem State.issue_dev (cmd : Cmd) (addr : Addr) (tx : Byte) : (s.issue cmd addr tx).dev = s.dev := rfl
@[simp] theorem State.issue_draws (cmd : Cmd) (addr : Addr) (tx : Byte) : (s.issue cmd addr tx).draws = s.draws := rfl

@[simp] theorem State.memRead_build (addr : Addr) : (s.memRead addr).build = s.build := rfl
@[simp] theorem State.memRead_seq (addr : Addr) : (s.memRead addr).seq = .waitX := rfl
@[simp] theorem State.memRead_stepCount (addr : Addr) : (s.memRead addr).stepCount = s.stepCount := rfl
@[simp] theorem State.memRead_reqOp (addr : Addr) : (s.memRead addr).reqOp = s.reqOp := rfl
@[simp] theorem State.memRead_reqArg (addr : Addr) : (s.memRead addr).reqArg = s.reqArg := rfl
@[simp] theorem State.memRead_tmp (addr : Addr) : (s.memRead addr).tmp = s.tmp := rfl
@[simp] theorem State.memRead_wdh (addr : Addr) : (s.memRead addr).wdh = s.wdh := rfl
@[simp] theorem State.memRead_wdl (addr : Addr) : (s.memRead addr).wdl = s.wdl := rfl
@[simp] theorem State.memRead_composite (addr : Addr) : (s.memRead addr).composite = s.composite := rfl
@[simp] theorem State.memRead_crcRx (addr : Addr) : (s.memRead addr).crcRx = s.crcRx := rfl
@[simp] theorem State.memRead_crc (addr : Addr) : (s.memRead addr).crc = s.crc := rfl
@[simp] theorem State.memRead_rsp (addr : Addr) : (s.memRead addr).rsp = s.rsp := rfl
@[simp] theorem State.memRead_zeroState (addr : Addr) : (s.memRead addr).zeroState = s.zeroState := rfl
@[simp] theorem State.memRead_progState (addr : Addr) : (s.memRead addr).progState = s.progState := rfl
@[simp] theorem State.memRead_xout (addr : Addr) : (s.memRead addr).xout = some (packFrame s.build.opcRd addr 0) := rfl
@[simp] theorem State.memRead_reply (addr : Addr) : (s.memRead addr).reply = none := rfl
@[simp] theorem State.memRead_pins (addr : Addr) : (s.memRead addr).pins = s.pins := rfl
@[simp] theorem State.memRead_env (addr : Addr) : (s.memRead addr).env = s.env := rfl
@[simp] theorem State.memRead_dev (addr : Addr) : (s.memRead addr).dev = s.dev := rfl
@[simp] theorem State.memRead_draws (addr : Addr) : (s.memRead addr).draws = s.draws := rfl

@[simp] theorem State.memWrite_build (addr : Addr) (v : Byte) : (s.memWrite addr v).build = s.build := rfl
@[simp] theorem State.memWrite_seq (addr : Addr) (v : Byte) : (s.memWrite addr v).seq = .waitX := rfl
@[simp] theorem State.memWrite_stepCount (addr : Addr) (v : Byte) : (s.memWrite addr v).stepCount = s.stepCount := rfl
@[simp] theorem State.memWrite_reqOp (addr : Addr) (v : Byte) : (s.memWrite addr v).reqOp = s.reqOp := rfl
@[simp] theorem State.memWrite_reqArg (addr : Addr) (v : Byte) : (s.memWrite addr v).reqArg = s.reqArg := rfl
@[simp] theorem State.memWrite_tmp (addr : Addr) (v : Byte) : (s.memWrite addr v).tmp = s.tmp := rfl
@[simp] theorem State.memWrite_wdh (addr : Addr) (v : Byte) : (s.memWrite addr v).wdh = s.wdh := rfl
@[simp] theorem State.memWrite_wdl (addr : Addr) (v : Byte) : (s.memWrite addr v).wdl = s.wdl := rfl
@[simp] theorem State.memWrite_composite (addr : Addr) (v : Byte) : (s.memWrite addr v).composite = s.composite := rfl
@[simp] theorem State.memWrite_crcRx (addr : Addr) (v : Byte) : (s.memWrite addr v).crcRx = s.crcRx := rfl
@[simp] theorem State.memWrite_crc (addr : Addr) (v : Byte) : (s.memWrite addr v).crc = s.crc := rfl
@[simp] theorem State.memWrite_rsp (addr : Addr) (v : Byte) : (s.memWrite addr v).rsp = s.rsp := rfl
@[simp] theorem State.memWrite_zeroState (addr : Addr) (v : Byte) : (s.memWrite addr v).zeroState = s.zeroState := rfl
@[simp] theorem State.memWrite_progState (addr : Addr) (v : Byte) : (s.memWrite addr v).progState = s.progState := rfl
@[simp] theorem State.memWrite_xout (addr : Addr) (v : Byte) : (s.memWrite addr v).xout = some (packFrame s.build.opcWr addr v) := rfl
@[simp] theorem State.memWrite_reply (addr : Addr) (v : Byte) : (s.memWrite addr v).reply = none := rfl
@[simp] theorem State.memWrite_pins (addr : Addr) (v : Byte) : (s.memWrite addr v).pins = s.pins := rfl
@[simp] theorem State.memWrite_env (addr : Addr) (v : Byte) : (s.memWrite addr v).env = s.env := rfl
@[simp] theorem State.memWrite_dev (addr : Addr) (v : Byte) : (s.memWrite addr v).dev = s.dev := rfl
@[simp] theorem State.memWrite_draws (addr : Addr) (v : Byte) : (s.memWrite addr v).draws = s.draws := rfl

@[simp] theorem State.respond_build (r : Reply) : (s.respond r).build = s.build := rfl
@[simp] theorem State.respond_seq (r : Reply) : (s.respond r).seq = .run := rfl
@[simp] theorem State.respond_reqOp (r : Reply) : (s.respond r).reqOp = s.reqOp := rfl
@[simp] theorem State.respond_reqArg (r : Reply) : (s.respond r).reqArg = s.reqArg := rfl
@[simp] theorem State.respond_tmp (r : Reply) : (s.respond r).tmp = s.tmp := rfl
@[simp] theorem State.respond_wdh (r : Reply) : (s.respond r).wdh = s.wdh := rfl
@[simp] theorem State.respond_wdl (r : Reply) : (s.respond r).wdl = s.wdl := rfl
@[simp] theorem State.respond_composite (r : Reply) : (s.respond r).composite = s.composite := rfl
@[simp] theorem State.respond_crcRx (r : Reply) : (s.respond r).crcRx = s.crcRx := rfl
@[simp] theorem State.respond_crc (r : Reply) : (s.respond r).crc = s.crc := rfl
@[simp] theorem State.respond_rsp (r : Reply) : (s.respond r).rsp = s.rsp := rfl
@[simp] theorem State.respond_zeroState (r : Reply) : (s.respond r).zeroState = s.zeroState := rfl
@[simp] theorem State.respond_progState (r : Reply) : (s.respond r).progState = s.progState := rfl
@[simp] theorem State.respond_xout (r : Reply) : (s.respond r).xout = none := rfl
@[simp] theorem State.respond_reply (r : Reply) : (s.respond r).reply = some r := rfl
@[simp] theorem State.respond_pins (r : Reply) : (s.respond r).pins = s.pins := rfl
@[simp] theorem State.respond_env (r : Reply) : (s.respond r).env = s.env := rfl
@[simp] theorem State.respond_dev (r : Reply) : (s.respond r).dev = s.dev := rfl
@[simp] theorem State.respond_draws (r : Reply) : (s.respond r).draws = s.draws := rfl

@[simp] theorem State.deviceStores_build (cmd : Cmd) (addr : Addr) (tx : Byte) : (s.deviceStores cmd addr tx).build = s.build := by unfold State.deviceStores; split <;> rfl
@[simp] theorem State.deviceStores_seq (cmd : Cmd) (addr : Addr) (tx : Byte) : (s.deviceStores cmd addr tx).seq = s.seq := by unfold State.deviceStores; split <;> rfl
@[simp] theorem State.deviceStores_stepCount (cmd : Cmd) (addr : Addr) (tx : Byte) : (s.deviceStores cmd addr tx).stepCount = s.stepCount := by unfold State.deviceStores; split <;> rfl
@[simp] theorem State.deviceStores_reqOp (cmd : Cmd) (addr : Addr) (tx : Byte) : (s.deviceStores cmd addr tx).reqOp = s.reqOp := by unfold State.deviceStores; split <;> rfl
@[simp] theorem State.deviceStores_reqArg (cmd : Cmd) (addr : Addr) (tx : Byte) : (s.deviceStores cmd addr tx).reqArg = s.reqArg := by unfold State.deviceStores; split <;> rfl
@[simp] theorem State.deviceStores_tmp (cmd : Cmd) (addr : Addr) (tx : Byte) : (s.deviceStores cmd addr tx).tmp = s.tmp := by unfold State.deviceStores; split <;> rfl
@[simp] theorem State.deviceStores_wdh (cmd : Cmd) (addr : Addr) (tx : Byte) : (s.deviceStores cmd addr tx).wdh = s.wdh := by unfold State.deviceStores; split <;> rfl
@[simp] theorem State.deviceStores_wdl (cmd : Cmd) (addr : Addr) (tx : Byte) : (s.deviceStores cmd addr tx).wdl = s.wdl := by unfold State.deviceStores; split <;> rfl
@[simp] theorem State.deviceStores_composite (cmd : Cmd) (addr : Addr) (tx : Byte) : (s.deviceStores cmd addr tx).composite = s.composite := by unfold State.deviceStores; split <;> rfl
@[simp] theorem State.deviceStores_crcRx (cmd : Cmd) (addr : Addr) (tx : Byte) : (s.deviceStores cmd addr tx).crcRx = s.crcRx := by unfold State.deviceStores; split <;> rfl
@[simp] theorem State.deviceStores_crc (cmd : Cmd) (addr : Addr) (tx : Byte) : (s.deviceStores cmd addr tx).crc = s.crc := by unfold State.deviceStores; split <;> rfl
@[simp] theorem State.deviceStores_rsp (cmd : Cmd) (addr : Addr) (tx : Byte) : (s.deviceStores cmd addr tx).rsp = s.rsp := by unfold State.deviceStores; split <;> rfl
@[simp] theorem State.deviceStores_zeroState (cmd : Cmd) (addr : Addr) (tx : Byte) : (s.deviceStores cmd addr tx).zeroState = s.zeroState := by unfold State.deviceStores; split <;> rfl
@[simp] theorem State.deviceStores_progState (cmd : Cmd) (addr : Addr) (tx : Byte) : (s.deviceStores cmd addr tx).progState = s.progState := by unfold State.deviceStores; split <;> rfl
@[simp] theorem State.deviceStores_xout (cmd : Cmd) (addr : Addr) (tx : Byte) : (s.deviceStores cmd addr tx).xout = s.xout := by unfold State.deviceStores; split <;> rfl
@[simp] theorem State.deviceStores_reply (cmd : Cmd) (addr : Addr) (tx : Byte) : (s.deviceStores cmd addr tx).reply = s.reply := by unfold State.deviceStores; split <;> rfl
@[simp] theorem State.deviceStores_pins (cmd : Cmd) (addr : Addr) (tx : Byte) : (s.deviceStores cmd addr tx).pins = s.pins := by unfold State.deviceStores; split <;> rfl
@[simp] theorem State.deviceStores_env (cmd : Cmd) (addr : Addr) (tx : Byte) : (s.deviceStores cmd addr tx).env = s.env := by unfold State.deviceStores; split <;> rfl
@[simp] theorem State.deviceStores_dev (cmd : Cmd) (addr : Addr) (tx : Byte) : (s.deviceStores cmd addr tx).dev = if cmd = s.build.opcWr ∧ addrOk addr = true then Memory.write s.dev addr.toNat tx else s.dev := by unfold State.deviceStores; split <;> rfl
@[simp] theorem State.deviceStores_draws (cmd : Cmd) (addr : Addr) (tx : Byte) : (s.deviceStores cmd addr tx).draws = s.draws := by unfold State.deviceStores; split <;> rfl

@[simp] theorem State.deviceActs_build (cmd : Cmd) (addr : Addr) (tx : Byte) : (s.deviceActs cmd addr tx).build = s.build := by unfold State.deviceActs; split; rfl; split <;> simp_all
@[simp] theorem State.deviceActs_seq (cmd : Cmd) (addr : Addr) (tx : Byte) : (s.deviceActs cmd addr tx).seq = s.seq := by unfold State.deviceActs; split; rfl; split <;> simp_all
@[simp] theorem State.deviceActs_stepCount (cmd : Cmd) (addr : Addr) (tx : Byte) : (s.deviceActs cmd addr tx).stepCount = s.stepCount := by unfold State.deviceActs; split; rfl; split <;> simp_all
@[simp] theorem State.deviceActs_reqOp (cmd : Cmd) (addr : Addr) (tx : Byte) : (s.deviceActs cmd addr tx).reqOp = s.reqOp := by unfold State.deviceActs; split; rfl; split <;> simp_all
@[simp] theorem State.deviceActs_reqArg (cmd : Cmd) (addr : Addr) (tx : Byte) : (s.deviceActs cmd addr tx).reqArg = s.reqArg := by unfold State.deviceActs; split; rfl; split <;> simp_all
@[simp] theorem State.deviceActs_tmp (cmd : Cmd) (addr : Addr) (tx : Byte) : (s.deviceActs cmd addr tx).tmp = s.tmp := by unfold State.deviceActs; split; rfl; split <;> simp_all
@[simp] theorem State.deviceActs_wdh (cmd : Cmd) (addr : Addr) (tx : Byte) : (s.deviceActs cmd addr tx).wdh = s.wdh := by unfold State.deviceActs; split; rfl; split <;> simp_all
@[simp] theorem State.deviceActs_wdl (cmd : Cmd) (addr : Addr) (tx : Byte) : (s.deviceActs cmd addr tx).wdl = s.wdl := by unfold State.deviceActs; split; rfl; split <;> simp_all
@[simp] theorem State.deviceActs_composite (cmd : Cmd) (addr : Addr) (tx : Byte) : (s.deviceActs cmd addr tx).composite = s.composite := by unfold State.deviceActs; split; rfl; split <;> simp_all
@[simp] theorem State.deviceActs_crcRx (cmd : Cmd) (addr : Addr) (tx : Byte) : (s.deviceActs cmd addr tx).crcRx = s.crcRx := by unfold State.deviceActs; split; rfl; split <;> simp_all
@[simp] theorem State.deviceActs_crc (cmd : Cmd) (addr : Addr) (tx : Byte) : (s.deviceActs cmd addr tx).crc = s.crc := by unfold State.deviceActs; split; rfl; split <;> simp_all
@[simp] theorem State.deviceActs_rsp (cmd : Cmd) (addr : Addr) (tx : Byte) : (s.deviceActs cmd addr tx).rsp = s.rsp := by unfold State.deviceActs; split; rfl; split <;> simp_all
@[simp] theorem State.deviceActs_zeroState (cmd : Cmd) (addr : Addr) (tx : Byte) : (s.deviceActs cmd addr tx).zeroState = s.zeroState := by unfold State.deviceActs; split; rfl; split <;> simp_all
@[simp] theorem State.deviceActs_progState (cmd : Cmd) (addr : Addr) (tx : Byte) : (s.deviceActs cmd addr tx).progState = s.progState := by unfold State.deviceActs; split; rfl; split <;> simp_all
@[simp] theorem State.deviceActs_xout (cmd : Cmd) (addr : Addr) (tx : Byte) : (s.deviceActs cmd addr tx).xout = s.xout := by unfold State.deviceActs; split; rfl; split <;> simp_all
@[simp] theorem State.deviceActs_reply (cmd : Cmd) (addr : Addr) (tx : Byte) : (s.deviceActs cmd addr tx).reply = s.reply := by unfold State.deviceActs; split; rfl; split <;> simp_all
@[simp] theorem State.deviceActs_pins (cmd : Cmd) (addr : Addr) (tx : Byte) : (s.deviceActs cmd addr tx).pins = s.pins := by unfold State.deviceActs; split; rfl; split <;> simp_all
@[simp] theorem State.deviceActs_env (cmd : Cmd) (addr : Addr) (tx : Byte) : (s.deviceActs cmd addr tx).env = s.env := by unfold State.deviceActs; split; rfl; split <;> simp_all
@[simp] theorem State.deviceActs_dev (cmd : Cmd) (addr : Addr) (tx : Byte) : (s.deviceActs cmd addr tx).dev = if cmd = s.build.opcRd then s.dev else if cmd = s.build.opcWr then (if addrOk addr = true then Memory.write s.dev addr.toNat tx else s.dev) else [] := by unfold State.deviceActs; split; rfl; split <;> simp_all
@[simp] theorem State.deviceActs_draws (cmd : Cmd) (addr : Addr) (tx : Byte) : (s.deviceActs cmd addr tx).draws = s.draws := by unfold State.deviceActs; split; rfl; split <;> simp_all

@[simp] theorem State.idealDraw_build (cmd : Cmd) (addr : Addr) : (s.idealDraw cmd addr).build = s.build := by unfold State.idealDraw; split <;> rfl
@[simp] theorem State.idealDraw_seq (cmd : Cmd) (addr : Addr) : (s.idealDraw cmd addr).seq = s.seq := by unfold State.idealDraw; split <;> rfl
@[simp] theorem State.idealDraw_stepCount (cmd : Cmd) (addr : Addr) : (s.idealDraw cmd addr).stepCount = s.stepCount := by unfold State.idealDraw; split <;> rfl
@[simp] theorem State.idealDraw_reqOp (cmd : Cmd) (addr : Addr) : (s.idealDraw cmd addr).reqOp = s.reqOp := by unfold State.idealDraw; split <;> rfl
@[simp] theorem State.idealDraw_reqArg (cmd : Cmd) (addr : Addr) : (s.idealDraw cmd addr).reqArg = s.reqArg := by unfold State.idealDraw; split <;> rfl
@[simp] theorem State.idealDraw_tmp (cmd : Cmd) (addr : Addr) : (s.idealDraw cmd addr).tmp = s.tmp := by unfold State.idealDraw; split <;> rfl
@[simp] theorem State.idealDraw_wdh (cmd : Cmd) (addr : Addr) : (s.idealDraw cmd addr).wdh = s.wdh := by unfold State.idealDraw; split <;> rfl
@[simp] theorem State.idealDraw_wdl (cmd : Cmd) (addr : Addr) : (s.idealDraw cmd addr).wdl = s.wdl := by unfold State.idealDraw; split <;> rfl
@[simp] theorem State.idealDraw_composite (cmd : Cmd) (addr : Addr) : (s.idealDraw cmd addr).composite = s.composite := by unfold State.idealDraw; split <;> rfl
@[simp] theorem State.idealDraw_crcRx (cmd : Cmd) (addr : Addr) : (s.idealDraw cmd addr).crcRx = s.crcRx := by unfold State.idealDraw; split <;> rfl
@[simp] theorem State.idealDraw_crc (cmd : Cmd) (addr : Addr) : (s.idealDraw cmd addr).crc = s.crc := by unfold State.idealDraw; split <;> rfl
@[simp] theorem State.idealDraw_rsp (cmd : Cmd) (addr : Addr) : (s.idealDraw cmd addr).rsp = s.rsp := by unfold State.idealDraw; split <;> rfl
@[simp] theorem State.idealDraw_zeroState (cmd : Cmd) (addr : Addr) : (s.idealDraw cmd addr).zeroState = s.zeroState := by unfold State.idealDraw; split <;> rfl
@[simp] theorem State.idealDraw_progState (cmd : Cmd) (addr : Addr) : (s.idealDraw cmd addr).progState = s.progState := by unfold State.idealDraw; split <;> rfl
@[simp] theorem State.idealDraw_xout (cmd : Cmd) (addr : Addr) : (s.idealDraw cmd addr).xout = s.xout := by unfold State.idealDraw; split <;> rfl
@[simp] theorem State.idealDraw_reply (cmd : Cmd) (addr : Addr) : (s.idealDraw cmd addr).reply = s.reply := by unfold State.idealDraw; split <;> rfl
@[simp] theorem State.idealDraw_pins (cmd : Cmd) (addr : Addr) : (s.idealDraw cmd addr).pins = s.pins := by unfold State.idealDraw; split <;> rfl
@[simp] theorem State.idealDraw_env (cmd : Cmd) (addr : Addr) : (s.idealDraw cmd addr).env = s.env := by unfold State.idealDraw; split <;> rfl
@[simp] theorem State.idealDraw_dev (cmd : Cmd) (addr : Addr) : (s.idealDraw cmd addr).dev = s.dev := by unfold State.idealDraw; split <;> rfl
@[simp] theorem State.idealDraw_draws (cmd : Cmd) (addr : Addr) : (s.idealDraw cmd addr).draws = if cmd = s.build.opcRd ∧ addrOk addr = true ∧ Memory.read s.dev addr.toNat = none then s.draws + 1 else s.draws := by unfold State.idealDraw; split <;> rfl

@[simp] theorem State.resetRpc_build : (s.resetRpc).build = s.build := rfl
@[simp] theorem State.resetRpc_seq : (s.resetRpc).seq = .idle := rfl
@[simp] theorem State.resetRpc_stepCount : (s.resetRpc).stepCount = 0 := rfl
@[simp] theorem State.resetRpc_reqOp : (s.resetRpc).reqOp = 0 := rfl
@[simp] theorem State.resetRpc_reqArg : (s.resetRpc).reqArg = 0 := rfl
@[simp] theorem State.resetRpc_tmp : (s.resetRpc).tmp = 0 := rfl
@[simp] theorem State.resetRpc_wdh : (s.resetRpc).wdh = 0 := rfl
@[simp] theorem State.resetRpc_wdl : (s.resetRpc).wdl = 0 := rfl
@[simp] theorem State.resetRpc_composite : (s.resetRpc).composite = 0 := rfl
@[simp] theorem State.resetRpc_crcRx : (s.resetRpc).crcRx = 0 := rfl
@[simp] theorem State.resetRpc_crc : (s.resetRpc).crc = 0 := rfl
@[simp] theorem State.resetRpc_rsp : (s.resetRpc).rsp = .absent := rfl
@[simp] theorem State.resetRpc_zeroState : (s.resetRpc).zeroState = .idle := rfl
@[simp] theorem State.resetRpc_progState : (s.resetRpc).progState = .idle := rfl
@[simp] theorem State.resetRpc_xout : (s.resetRpc).xout = none := rfl
@[simp] theorem State.resetRpc_reply : (s.resetRpc).reply = none := rfl
@[simp] theorem State.resetRpc_pins : (s.resetRpc).pins = s.pins := rfl
@[simp] theorem State.resetRpc_env : (s.resetRpc).env = s.env := rfl
@[simp] theorem State.resetRpc_dev : (s.resetRpc).dev = s.dev := rfl
@[simp] theorem State.resetRpc_draws : (s.resetRpc).draws = s.draws := rfl

@[simp] theorem State.accept_build (w : ReqWord) : (s.accept w).build = s.build := rfl
@[simp] theorem State.accept_seq (w : ReqWord) : (s.accept w).seq = .run := rfl
@[simp] theorem State.accept_stepCount (w : ReqWord) : (s.accept w).stepCount = 0 := rfl
@[simp] theorem State.accept_reqOp (w : ReqWord) : (s.accept w).reqOp = requestOp w := rfl
@[simp] theorem State.accept_reqArg (w : ReqWord) : (s.accept w).reqArg = requestArg w := rfl
@[simp] theorem State.accept_tmp (w : ReqWord) : (s.accept w).tmp = s.tmp := rfl
@[simp] theorem State.accept_wdh (w : ReqWord) : (s.accept w).wdh = s.wdh := rfl
@[simp] theorem State.accept_wdl (w : ReqWord) : (s.accept w).wdl = s.wdl := rfl
@[simp] theorem State.accept_composite (w : ReqWord) : (s.accept w).composite = s.composite := rfl
@[simp] theorem State.accept_crcRx (w : ReqWord) : (s.accept w).crcRx = s.crcRx := rfl
@[simp] theorem State.accept_crc (w : ReqWord) : (s.accept w).crc = s.crc := rfl
@[simp] theorem State.accept_rsp (w : ReqWord) : (s.accept w).rsp = .absent := rfl
@[simp] theorem State.accept_zeroState (w : ReqWord) : (s.accept w).zeroState = s.zeroState := rfl
@[simp] theorem State.accept_progState (w : ReqWord) : (s.accept w).progState = s.progState := rfl
@[simp] theorem State.accept_xout (w : ReqWord) : (s.accept w).xout = s.xout := rfl
@[simp] theorem State.accept_reply (w : ReqWord) : (s.accept w).reply = none := rfl
@[simp] theorem State.accept_pins (w : ReqWord) : (s.accept w).pins = s.pins := rfl
@[simp] theorem State.accept_env (w : ReqWord) : (s.accept w).env = s.env := rfl
@[simp] theorem State.accept_dev (w : ReqWord) : (s.accept w).dev = s.dev := rfl
@[simp] theorem State.accept_draws (w : ReqWord) : (s.accept w).draws = s.draws := rfl

@[simp] theorem State.advance_build : (s.advance).build = s.build := by unfold State.advance; split <;> rfl
@[simp] theorem State.advance_seq : (s.advance).seq = s.seq := by unfold State.advance; split <;> rfl
@[simp] theorem State.advance_stepCount : (s.advance).stepCount = s.stepCount := by unfold State.advance; split <;> rfl
@[simp] theorem State.advance_reqOp : (s.advance).reqOp = s.reqOp := by unfold State.advance; split <;> rfl
@[simp] theorem State.advance_reqArg : (s.advance).reqArg = s.reqArg := by unfold State.advance; split <;> rfl
@[simp] theorem State.advance_tmp : (s.advance).tmp = s.tmp := by unfold State.advance; split <;> rfl
@[simp] theorem State.advance_wdh : (s.advance).wdh = s.wdh := by unfold State.advance; split <;> rfl
@[simp] theorem State.advance_wdl : (s.advance).wdl = s.wdl := by unfold State.advance; split <;> rfl
@[simp] theorem State.advance_composite : (s.advance).composite = s.composite := by unfold State.advance; split <;> rfl
@[simp] theorem State.advance_crcRx : (s.advance).crcRx = s.crcRx := by unfold State.advance; split <;> rfl
@[simp] theorem State.advance_crc : (s.advance).crc = s.crc := by unfold State.advance; split <;> rfl
@[simp] theorem State.advance_rsp : (s.advance).rsp = s.rsp := by unfold State.advance; split <;> rfl
@[simp] theorem State.advance_zeroState : (s.advance).zeroState = s.zeroState := by unfold State.advance; split <;> rfl
@[simp] theorem State.advance_progState : (s.advance).progState = s.progState := by unfold State.advance; split <;> rfl
@[simp] theorem State.advance_xout : (s.advance).xout = s.xout := by unfold State.advance; split <;> rfl
@[simp] theorem State.advance_reply : (s.advance).reply = s.reply := by unfold State.advance; split <;> rfl
@[simp] theorem State.advance_env : (s.advance).env = s.env.tail := by unfold State.advance; split <;> simp_all
@[simp] theorem State.advance_dev : (s.advance).dev = s.dev := by unfold State.advance; split <;> rfl
@[simp] theorem State.advance_draws : (s.advance).draws = s.draws := by unfold State.advance; split <;> rfl

@[simp] theorem State.sent_build (f : Frame) : (s.sent f).build = s.build := rfl
@[simp] theorem State.sent_seq (f : Frame) : (s.sent f).seq = .waitX := rfl
@[simp] theorem State.sent_stepCount (f : Frame) : (s.sent f).stepCount = s.stepCount := rfl
@[simp] theorem State.sent_reqOp (f : Frame) : (s.sent f).reqOp = s.reqOp := rfl
@[simp] theorem State.sent_reqArg (f : Frame) : (s.sent f).reqArg = s.reqArg := rfl
@[simp] theorem State.sent_tmp (f : Frame) : (s.sent f).tmp = s.tmp := rfl
@[simp] theorem State.sent_wdh (f : Frame) : (s.sent f).wdh = s.wdh := rfl
@[simp] theorem State.sent_wdl (f : Frame) : (s.sent f).wdl = s.wdl := rfl
@[simp] theorem State.sent_composite (f : Frame) : (s.sent f).composite = s.composite := rfl
@[simp] theorem State.sent_crcRx (f : Frame) : (s.sent f).crcRx = s.crcRx := rfl
@[simp] theorem State.sent_crc (f : Frame) : (s.sent f).crc = s.crc := rfl
@[simp] theorem State.sent_rsp (f : Frame) : (s.sent f).rsp = s.rsp := rfl
@[simp] theorem State.sent_zeroState (f : Frame) : (s.sent f).zeroState = s.zeroState := rfl
@[simp] theorem State.sent_progState (f : Frame) : (s.sent f).progState = s.progState := rfl
@[simp] theorem State.sent_xout (f : Frame) : (s.sent f).xout = some f := rfl
@[simp] theorem State.sent_reply (f : Frame) : (s.sent f).reply = none := rfl
@[simp] theorem State.sent_pins (f : Frame) : (s.sent f).pins = s.pins := rfl
@[simp] theorem State.sent_env (f : Frame) : (s.sent f).env = s.env := rfl
@[simp] theorem State.sent_dev (f : Frame) : (s.sent f).dev = s.dev := rfl
@[simp] theorem State.sent_draws (f : Frame) : (s.sent f).draws = s.draws := rfl

@[simp] theorem State.withWork_build (w : Work) : (s.withWork w).build = s.build := rfl
@[simp] theorem State.withWork_seq (w : Work) : (s.withWork w).seq = s.seq := rfl
@[simp] theorem State.withWork_stepCount (w : Work) : (s.withWork w).stepCount = s.stepCount := rfl
@[simp] theorem State.withWork_reqOp (w : Work) : (s.withWork w).reqOp = s.reqOp := rfl
@[simp] theorem State.withWork_reqArg (w : Work) : (s.withWork w).reqArg = s.reqArg := rfl
@[simp] theorem State.withWork_tmp (w : Work) : (s.withWork w).tmp = w.tmp := rfl
@[simp] theorem State.withWork_wdh (w : Work) : (s.withWork w).wdh = w.wdh := rfl
@[simp] theorem State.withWork_wdl (w : Work) : (s.withWork w).wdl = w.wdl := rfl
@[simp] theorem State.withWork_composite (w : Work) : (s.withWork w).composite = w.composite := rfl
@[simp] theorem State.withWork_crcRx (w : Work) : (s.withWork w).crcRx = w.crcRx := rfl
@[simp] theorem State.withWork_crc (w : Work) : (s.withWork w).crc = w.crc := rfl
@[simp] theorem State.withWork_rsp (w : Work) : (s.withWork w).rsp = s.rsp := rfl
@[simp] theorem State.withWork_zeroState (w : Work) : (s.withWork w).zeroState = s.zeroState := rfl
@[simp] theorem State.withWork_progState (w : Work) : (s.withWork w).progState = s.progState := rfl
@[simp] theorem State.withWork_xout (w : Work) : (s.withWork w).xout = s.xout := rfl
@[simp] theorem State.withWork_reply (w : Work) : (s.withWork w).reply = s.reply := rfl
@[simp] theorem State.withWork_pins (w : Work) : (s.withWork w).pins = s.pins := rfl
@[simp] theorem State.withWork_env (w : Work) : (s.withWork w).env = s.env := rfl
@[simp] theorem State.withWork_dev (w : Work) : (s.withWork w).dev = s.dev := rfl
@[simp] theorem State.withWork_draws (w : Work) : (s.withWork w).draws = s.draws := rfl

@[simp] theorem State.withRequest_build (op : Byte) (arg : Word) : (s.withRequest op arg).build = s.build := rfl
@[simp] theorem State.withRequest_seq (op : Byte) (arg : Word) : (s.withRequest op arg).seq = s.seq := rfl
@[simp] theorem State.withRequest_stepCount (op : Byte) (arg : Word) : (s.withRequest op arg).stepCount = s.stepCount := rfl
@[simp] theorem State.withRequest_reqOp (op : Byte) (arg : Word) : (s.withRequest op arg).reqOp = op := rfl
@[simp] theorem State.withRequest_reqArg (op : Byte) (arg : Word) : (s.withRequest op arg).reqArg = arg := rfl
@[simp] theorem State.withRequest_tmp (op : Byte) (arg : Word) : (s.withRequest op arg).tmp = s.tmp := rfl
@[simp] theorem State.withRequest_wdh (op : Byte) (arg : Word) : (s.withRequest op arg).wdh = s.wdh := rfl
@[simp] theorem State.withRequest_wdl (op : Byte) (arg : Word) : (s.withRequest op arg).wdl = s.wdl := rfl
@[simp] theorem State.withRequest_composite (op : Byte) (arg : Word) : (s.withRequest op arg).composite = s.composite := rfl
@[simp] theorem State.withRequest_crcRx (op : Byte) (arg : Word) : (s.withRequest op arg).crcRx = s.crcRx := rfl
@[simp] theorem State.withRequest_crc (op : Byte) (arg : Word) : (s.withRequest op arg).crc = s.crc := rfl
@[simp] theorem State.withRequest_rsp (op : Byte) (arg : Word) : (s.withRequest op arg).rsp = s.rsp := rfl
@[simp] theorem State.withRequest_zeroState (op : Byte) (arg : Word) : (s.withRequest op arg).zeroState = s.zeroState := rfl
@[simp] theorem State.withRequest_progState (op : Byte) (arg : Word) : (s.withRequest op arg).progState = s.progState := rfl
@[simp] theorem State.withRequest_xout (op : Byte) (arg : Word) : (s.withRequest op arg).xout = s.xout := rfl
@[simp] theorem State.withRequest_reply (op : Byte) (arg : Word) : (s.withRequest op arg).reply = s.reply := rfl
@[simp] theorem State.withRequest_pins (op : Byte) (arg : Word) : (s.withRequest op arg).pins = s.pins := rfl
@[simp] theorem State.withRequest_env (op : Byte) (arg : Word) : (s.withRequest op arg).env = s.env := rfl
@[simp] theorem State.withRequest_dev (op : Byte) (arg : Word) : (s.withRequest op arg).dev = s.dev := rfl
@[simp] theorem State.withRequest_draws (op : Byte) (arg : Word) : (s.withRequest op arg).draws = s.draws := rfl

@[simp] theorem State.over_build (r : Rsp) (w : Work) : (s.over r w).build = s.build := rfl
@[simp] theorem State.over_seq (r : Rsp) (w : Work) : (s.over r w).seq = .done := rfl
@[simp] theorem State.over_stepCount (r : Rsp) (w : Work) : (s.over r w).stepCount = s.stepCount := rfl
@[simp] theorem State.over_reqOp (r : Rsp) (w : Work) : (s.over r w).reqOp = s.reqOp := rfl
@[simp] theorem State.over_reqArg (r : Rsp) (w : Work) : (s.over r w).reqArg = s.reqArg := rfl
@[simp] theorem State.over_tmp (r : Rsp) (w : Work) : (s.over r w).tmp = w.tmp := rfl
@[simp] theorem State.over_wdh (r : Rsp) (w : Work) : (s.over r w).wdh = w.wdh := rfl
@[simp] theorem State.over_wdl (r : Rsp) (w : Work) : (s.over r w).wdl = w.wdl := rfl
@[simp] theorem State.over_composite (r : Rsp) (w : Work) : (s.over r w).composite = w.composite := rfl
@[simp] theorem State.over_crcRx (r : Rsp) (w : Work) : (s.over r w).crcRx = w.crcRx := rfl
@[simp] theorem State.over_crc (r : Rsp) (w : Work) : (s.over r w).crc = w.crc := rfl
@[simp] theorem State.over_rsp (r : Rsp) (w : Work) : (s.over r w).rsp = r := rfl
@[simp] theorem State.over_zeroState (r : Rsp) (w : Work) : (s.over r w).zeroState = s.zeroState := rfl
@[simp] theorem State.over_progState (r : Rsp) (w : Work) : (s.over r w).progState = s.progState := rfl
@[simp] theorem State.over_xout (r : Rsp) (w : Work) : (s.over r w).xout = s.xout := rfl
@[simp] theorem State.over_reply (r : Rsp) (w : Work) : (s.over r w).reply = none := rfl
@[simp] theorem State.over_pins (r : Rsp) (w : Work) : (s.over r w).pins = s.pins := rfl
@[simp] theorem State.over_env (r : Rsp) (w : Work) : (s.over r w).env = s.env := rfl
@[simp] theorem State.over_dev (r : Rsp) (w : Work) : (s.over r w).dev = s.dev := rfl
@[simp] theorem State.over_draws (r : Rsp) (w : Work) : (s.over r w).draws = s.draws := rfl

@[simp] theorem State.respond_stepCount_ok (b : Byte) : (s.respond (.ok b)).stepCount = s.stepCount + 1 := rfl
@[simp] theorem State.respond_stepCount_fail (n : Nat) : (s.respond (.fail n)).stepCount = s.stepCount := rfl
@[simp] theorem State.advance_pins : s.advance.pins = s.env.head?.getD {} := by
  unfold State.advance; split <;> simp_all

/-- What `advance` can do: it replaces the pins and their schedule, nothing else. -/
theorem State.advance_eq : s.advance = { s with pins := s.env.head?.getD {}, env := s.env.tail } := by
  unfold State.advance; split <;> simp_all

/-- The two ways of saying that an exchange is started. -/
theorem State.issue_eq_sent (cmd : Cmd) (addr : Addr) (tx : Byte) :
    s.issue cmd addr tx = s.sent (packFrame cmd addr tx) := rfl

theorem State.memRead_eq_sent (addr : Addr) : s.memRead addr = s.sent (packFrame s.build.opcRd addr 0) := rfl

theorem State.memWrite_eq_sent (addr : Addr) (v : Byte) : s.memWrite addr v = s.sent (packFrame s.build.opcWr addr v) := rfl

/-- The model's end of an operation is an end as the statements write it, with the working registers cleared. -/
theorem State.ended_eq_over (r : Rsp) : s.ended r = s.over r Work.cleared := rfl

end

end Sys2Proof.Machine
end

