-- ==== Sys2Proof/Laws/Ops.lean ====
section
/-! SUPPORT. One lemma for each shared operation that says everything it can do; later proofs cite these and do not unfold
the operation. -/

namespace Sys2Proof.Machine

variable {s t : State}

-- The straight line of an operation.

theorem State.sequence_atStart (h : s.AtStart) (start : Result) (rest : List (Byte → Result)) (resume : Result) :
    s.sequence start rest resume = start := by
  obtain ⟨h0, hr⟩ := h
  simp [State.sequence, h0, hr]

theorem State.sequence_failed {info : Nat} (h : s.reply = some (.fail info)) (start : Result)
    (rest : List (Byte → Result)) (resume : Result) :
    s.sequence start rest resume = .next (s.over (.err (.transport info)) Work.cleared) := by
  simp [State.sequence, h, State.raise, State.ended_eq_over]

theorem State.sequence_answered {k : BitVec 3} {n : Nat} {b : Byte} {cont : Byte → Result} (h : s.Answered k b)
    (hk : k.toNat = n + 1) {rest : List (Byte → Result)} (hc : rest[n]? = some cont) (start resume : Result) :
    s.sequence start rest resume = cont b := by
  obtain ⟨h0, hr⟩ := h
  subst h0
  simp [State.sequence, hr, hk, hc]

theorem State.sequence_resumed (hr : s.reply = none) (h0 : s.stepCount ≠ 0) (start : Result)
    (rest : List (Byte → Result)) (resume : Result) : s.sequence start rest resume = resume := by
  simp only [State.sequence, hr]
  exact if_neg h0

/-- If a move of an operation answers a next state, it is one of four: the end with TransportError, the continuation after
exchange n + 1, the start, or the move after the last exchange. -/
theorem State.sequence_next {start resume : Result} {rest : List (Byte → Result)}
    (h : s.sequence start rest resume = .next t) :
    (∃ info, s.reply = some (.fail info) ∧ t = s.over (.err (.transport info)) Work.cleared) ∨
    (∃ n b cont, s.reply = some (.ok b) ∧ s.stepCount.toNat = n + 1 ∧ rest[n]? = some cont ∧ cont b = .next t) ∨
    (s.AtStart ∧ start = .next t) ∨
    (s.reply = none ∧ s.stepCount ≠ 0 ∧ resume = .next t) := by
  unfold State.sequence at h
  split at h
  · next info hr =>
    exact .inl ⟨info, hr, by simpa [State.raise, State.ended_eq_over] using h.symm⟩
  · next b hr =>
    split at h
    · cases h
    · next n hn =>
      split at h
      · next cont hc => exact .inr (.inl ⟨n, b, cont, hr, hn, hc, h⟩)
      · cases h
  · next hr =>
    split at h
    · next h0 => exact .inr (.inr (.inl ⟨⟨h0, hr⟩, h⟩))
    · next h0 => exact .inr (.inr (.inr ⟨hr, h0, h⟩))

theorem State.guardArg_true (s : State) (k : Result) : s.guardArg true k = k := rfl

theorem State.guardArg_false (s : State) (k : Result) :
    s.guardArg false k = .next (s.over (.err .invalidArgument) Work.cleared) := rfl

/-- If a checked start answers a next state, the argument was in range and it is that of the start, or the operation ends
with InvalidArgument. -/
theorem State.guardArg_next {ok : Bool} {k : Result} (h : s.guardArg ok k = .next t) :
    (ok = true ∧ k = .next t) ∨ (ok = false ∧ t = s.over (.err .invalidArgument) Work.cleared) := by
  cases ok
  · exact .inr ⟨rfl, by simpa [State.guardArg_false] using h.symm⟩
  · exact .inl ⟨rfl, h⟩

-- The exchange.

/-- The frame of an exchange answered in this step. -/
theorem State.exchange_waits (h : s.pins.xrspValid = false) (cmd : Cmd) (addr : Addr) (tx : Byte) :
    s.exchange cmd addr tx = s := by simp [State.exchange, h]

/-- What the device does with a frame: a WR to one of its registers is stored, a RD changes nothing, and after any other frame
it acts on no register is known. -/
theorem State.deviceActs_cases (s : State) (cmd : Cmd) (addr : Addr) (tx : Byte) :
    (s.deviceActs cmd addr tx).dev = s.dev ∨
    (cmd = s.build.opcWr ∧ addrOk addr = true ∧ (s.deviceActs cmd addr tx).dev = Memory.write s.dev addr.toNat tx) ∨
    (cmd ≠ s.build.opcRd ∧ cmd ≠ s.build.opcWr ∧ (s.deviceActs cmd addr tx).dev = []) := by
  rw [State.deviceActs_dev]
  split
  · exact .inl rfl
  · next hr =>
    split
    · next hw =>
      split
      · next ha => exact .inr (.inl ⟨hw, ha, rfl⟩)
      · exact .inl rfl
    · next hw => exact .inr (.inr ⟨hr, hw, rfl⟩)

/-- A payload on the wires fits its port. -/
theorem State.wireReply_fits {n : Nat} (h : s.wireReply = .fail n) : n < 2 ^ s.build.terrW := by
  unfold State.wireReply at h
  split at h
  · cases h; exact Nat.mod_lt _ (Nat.two_pow_pos _)
  · cases h

/-- Everything an exchange can do: wait unchanged, or answer. When it answers, XOUT is emptied, SEQ = Run, the answer is in
hand and STEP counts an Ok; DEV keeps every byte but the one a WR stores, or is forgotten after a frame other than RD and WR;
and at most one free byte is drawn. -/
theorem State.exchange_cases (s : State) (cmd : Cmd) (addr : Addr) (tx : Byte) :
    (s.pins.xrspValid = false ∧ s.exchange cmd addr tx = s) ∨
    (s.pins.xrspValid = true ∧ ∃ r dev draws,
      s.exchange cmd addr tx =
        { s with
          xout := none, seq := .run, reply := some r, dev := dev, draws := draws,
          stepCount := r.count s.stepCount } ∧
      (dev = s.dev ∨ (cmd = s.build.opcWr ∧ addrOk addr = true ∧ dev = Memory.write s.dev addr.toNat tx) ∨
        (cmd ≠ s.build.opcRd ∧ cmd ≠ s.build.opcWr ∧ s.pins.device = .acts ∧ dev = [])) ∧
      (∀ n, r = .fail n → n < 2 ^ s.build.terrW)) := by
  cases hv : s.pins.xrspValid
  · exact .inl ⟨rfl, s.exchange_waits hv cmd addr tx⟩
  refine .inr ⟨rfl, ?_⟩
  simp only [State.exchange, hv, if_true, State.served, State.answer]
  cases hd : s.pins.device <;> dsimp only
  · refine ⟨s.idealReply cmd addr tx, ((s.idealDraw cmd addr).deviceStores cmd addr tx).dev,
      (s.idealDraw cmd addr).draws, ?_, ?_, ?_⟩
    · unfold State.respond State.deviceStores State.idealDraw
      split <;> split <;> simp_all
    · rw [State.deviceStores_dev, State.idealDraw_dev, State.idealDraw_build]
      split
      · next h => exact .inr (.inl ⟨h.1, h.2, rfl⟩)
      · exact .inl rfl
    · intro n h
      unfold State.idealReply at h
      repeat' split at h
      all_goals first | (cases h; exact Nat.two_pow_pos _) | cases h
  · refine ⟨s.wireReply, (s.deviceActs cmd addr tx).dev, s.draws, ?_, ?_, fun n h => s.wireReply_fits h⟩
    · unfold State.respond State.deviceActs State.deviceStores
      split
      · simp
      · split
        · split <;> simp
        · simp
    · rcases s.deviceActs_cases cmd addr tx with h | h | ⟨h1, h2, h3⟩
      · exact .inl h
      · exact .inr (.inl h)
      · exact .inr (.inr ⟨h1, h2, rfl, h3⟩)
  · exact ⟨s.wireReply, s.dev, s.draws, rfl, .inl rfl, fun n h => s.wireReply_fits h⟩

/-- The payload of what answers a wait without a frame fits its port. -/
theorem State.noFrameReply_fits {n : Nat} (h : s.noFrameReply = .fail n) : n < 2 ^ s.build.terrW := by
  unfold State.noFrameReply at h
  split at h
  · cases h; exact Nat.two_pow_pos _
  · exact s.wireReply_fits h
  · exact s.wireReply_fits h

-- The sequencer.

theorem Result.advanced_next {r : Result} (h : Result.advanced r = .next t) : ∃ u, r = .next u ∧ t = u.advance := by
  cases r with
  | next u => exact ⟨u, rfl, by simpa [Result.advanced] using h.symm⟩
  | fault => cases h
  | refused => cases h

/-- Everything a step can do when it answers a next state. -/
theorem step_next (h : step s = .next t) : ∃ u, t = u.advance ∧
    ((s.turn = .reset ∧ u = s.abandonFrame.resetRpc) ∨ (s.turn = .host ∧ u = s.hostMoves) ∨
     (∃ i, s.turn = .instr i ∧ exec i s = .next u) ∨ (s.turn = .illegal ∧ u = s.over (.err .illegalOperation) Work.cleared) ∨
     (∃ f, s.turn = .strange f ∧ u = s.exchange (frameCmd f) (frameAddr f) (frameTx f)) ∨
     (s.turn = .noFrame ∧ u = s.noFrameMoves) ∨ (s.turn = .settle ∧ u = s.settleMoves)) := by
  unfold step at h
  split at h
  case h_1 ht => cases h; exact ⟨_, rfl, .inl ⟨ht, rfl⟩⟩
  case h_2 ht => cases h; exact ⟨_, rfl, .inr (.inl ⟨ht, rfl⟩)⟩
  case h_3 i ht =>
    obtain ⟨u, hu, rfl⟩ := Result.advanced_next h
    exact ⟨u, rfl, .inr (.inr (.inl ⟨i, ht, hu⟩))⟩
  case h_4 ht => cases h; exact ⟨_, rfl, .inr (.inr (.inr (.inl ⟨ht, rfl⟩)))⟩
  case h_5 f ht => cases h; exact ⟨_, rfl, .inr (.inr (.inr (.inr (.inl ⟨f, ht, rfl⟩))))⟩
  case h_6 ht => cases h; exact ⟨_, rfl, .inr (.inr (.inr (.inr (.inr (.inl ⟨ht, rfl⟩)))))⟩
  case h_7 ht => cases h; exact ⟨_, rfl, .inr (.inr (.inr (.inr (.inr (.inr ⟨ht, rfl⟩)))))⟩

end Sys2Proof.Machine
end

