-- ==== Sys2Proof/Laws/PerInstr.lean ====
section
/-! SUPPORT. A law stated for every instruction, one lemma per constructor: its encoding has its format (rule R72) and
has its own code or form (rules R55, R57): a wire command is a frame with its command code, an operation a request whose
argument bits outside its form are zero. -/

namespace Sys2Proof.Laws.EncodeFormat

/-- The command code of a wire command (R55); operations have none. -/
def commandCode (c : Config) : Instr → Option Cmd
  | .wireRd _ _ => some c.opcRd
  | .wireWr _ _ => some c.opcWr
  | .wireZero _ _ => some c.opcZero
  | .wireProg _ _ => some c.opcProg
  | .wireBurst _ _ => some c.opcBurst
  | .rdreg _ | .wrreg _ _ | .rmw _ _ _ | .rdangle | .guid | .suid _ | .gres | .sres _ | .gabz | .sabz _ | .gswap
  | .sswap _ | .gzpos | .szpos _ | .gzedge | .szedge _ | .gzwid | .szwid _ | .gzph | .szph _ | .gdir | .sdir _
  | .zero | .prog | .burst => none

/-- The encoding of `i` is a frame with its command code, or a request whose bits outside its form are zero. -/
def Statement (i : Instr) : Prop :=
  ∀ c : Config,
    match commandCode c i with
    | some code => ∃ f, encode c i = .frame f ∧ frameCmd f = code
    | none => ∃ w, encode c i = .request w ∧ requestArg w &&& ~~~formMask i = 0

theorem argA_form (a : Addr) : argA a &&& ~~~formMask (.rdreg a) = 0 := by
  rw [show formMask (.rdreg a) = 0x00000FFF#32 from rfl]
  unfold argA; ext i h; simp; interval_cases i <;> simp

theorem argAd_form (a : Addr) (d : Byte) : argAd a d &&& ~~~formMask (.wrreg a d) = 0 := by
  rw [show formMask (.wrreg a d) = 0x000FFFFF#32 from rfl]
  unfold argAd; ext i h; simp; interval_cases i <;> simp

theorem argMad_form (a : Addr) (m n : Byte) : argMad a m n &&& ~~~formMask (.rmw a m n) = 0 := by
  rw [show formMask (.rmw a m n) = 0x0FFFFFFF#32 from rfl]
  unfold argMad; ext i h; simp; interval_cases i <;> simp

theorem wireRd (addr : Addr) (tx : Byte) : Statement (.wireRd addr tx) :=
  fun _ => ⟨_, rfl, frameCmd_packFrame _ _ _⟩
theorem wireWr (addr : Addr) (tx : Byte) : Statement (.wireWr addr tx) :=
  fun _ => ⟨_, rfl, frameCmd_packFrame _ _ _⟩
theorem wireZero (addr : Addr) (tx : Byte) : Statement (.wireZero addr tx) :=
  fun _ => ⟨_, rfl, frameCmd_packFrame _ _ _⟩
theorem wireProg (addr : Addr) (tx : Byte) : Statement (.wireProg addr tx) :=
  fun _ => ⟨_, rfl, frameCmd_packFrame _ _ _⟩
theorem wireBurst (addr : Addr) (tx : Byte) : Statement (.wireBurst addr tx) :=
  fun _ => ⟨_, rfl, frameCmd_packFrame _ _ _⟩
theorem rdreg (addr : Addr) : Statement (.rdreg addr) :=
  fun _ => ⟨_, rfl, by rw [requestArg_packRequest]; exact argA_form addr⟩
theorem wrreg (addr : Addr) (data : Byte) : Statement (.wrreg addr data) :=
  fun _ => ⟨_, rfl, by rw [requestArg_packRequest]; exact argAd_form addr data⟩
theorem rmw (addr : Addr) (mask : Byte) (newBits : Byte) : Statement (.rmw addr mask newBits) :=
  fun _ => ⟨_, rfl, by rw [requestArg_packRequest]; exact argMad_form addr mask newBits⟩
theorem rdangle : Statement .rdangle :=
  fun _ => ⟨_, rfl, by simp [formMask]⟩
theorem guid : Statement .guid :=
  fun _ => ⟨_, rfl, by simp [formMask]⟩
theorem suid (v : Word) : Statement (.suid v) :=
  fun _ => ⟨_, rfl, by simp [formMask]⟩
theorem gres : Statement .gres :=
  fun _ => ⟨_, rfl, by simp [formMask]⟩
theorem sres (v : Word) : Statement (.sres v) :=
  fun _ => ⟨_, rfl, by simp [formMask]⟩
theorem gabz : Statement .gabz :=
  fun _ => ⟨_, rfl, by simp [formMask]⟩
theorem sabz (v : Word) : Statement (.sabz v) :=
  fun _ => ⟨_, rfl, by simp [formMask]⟩
theorem gswap : Statement .gswap :=
  fun _ => ⟨_, rfl, by simp [formMask]⟩
theorem sswap (v : Word) : Statement (.sswap v) :=
  fun _ => ⟨_, rfl, by simp [formMask]⟩
theorem gzpos : Statement .gzpos :=
  fun _ => ⟨_, rfl, by simp [formMask]⟩
theorem szpos (d : Word) : Statement (.szpos d) :=
  fun _ => ⟨_, rfl, by simp [formMask]⟩
theorem gzedge : Statement .gzedge :=
  fun _ => ⟨_, rfl, by simp [formMask]⟩
theorem szedge (v : Word) : Statement (.szedge v) :=
  fun _ => ⟨_, rfl, by simp [formMask]⟩
theorem gzwid : Statement .gzwid :=
  fun _ => ⟨_, rfl, by simp [formMask]⟩
theorem szwid (v : Word) : Statement (.szwid v) :=
  fun _ => ⟨_, rfl, by simp [formMask]⟩
theorem gzph : Statement .gzph :=
  fun _ => ⟨_, rfl, by simp [formMask]⟩
theorem szph (v : Word) : Statement (.szph v) :=
  fun _ => ⟨_, rfl, by simp [formMask]⟩
theorem gdir : Statement .gdir :=
  fun _ => ⟨_, rfl, by simp [formMask]⟩
theorem sdir (v : Word) : Statement (.sdir v) :=
  fun _ => ⟨_, rfl, by simp [formMask]⟩
theorem zero : Statement .zero :=
  fun _ => ⟨_, rfl, by simp [formMask]⟩
theorem prog : Statement .prog :=
  fun _ => ⟨_, rfl, by simp [formMask]⟩
theorem burst : Statement .burst :=
  fun _ => ⟨_, rfl, by simp [formMask]⟩

end Sys2Proof.Laws.EncodeFormat
end

