-- ==== Sys2Proof/Laws/Safety.lean ====
section
/-! SUPPORT. Small lemmas about the exchange table and the command states, for the invariant's proof. -/

namespace Sys2Proof

/-- "a straight line of at most four exchanges" (R15). -/
theorem Instr.exchanges_length_le_four (c : Config) (i : Instr) : (i.exchanges c).length ≤ 4 := by
  cases i <;> simp only [Instr.exchanges, pairExchanges] <;> (repeat' split) <;> simp

/-- A frame of the exchange table decodes to one of the four wire commands RPC sends. -/
theorem Xchg.decode_carried {c : Config} {x : Xchg} {f : Frame} (h : c.opcs.Nodup) (hc : x.carriedBy c f) :
    match x with
    | .rd addr => decodeFrame c f = .ok (.wireRd addr 0)
    | .wr addr => ∃ b, decodeFrame c f = .ok (.wireWr addr b)
    | .zero => decodeFrame c f = .ok (.wireZero c.cmdAddr c.cmdData)
    | .prog => decodeFrame c f = .ok (.wireProg c.cmdAddr c.cmdData) := by
  have hd := fun a b => decodeFrame_packFrame c h a b
  cases x with
  | rd addr => exact (show f = _ from hc) ▸ (hd addr 0).1
  | wr addr => obtain ⟨b, rfl⟩ := hc; exact ⟨b, (hd addr b).2.1⟩
  | zero => exact (show f = _ from hc) ▸ (hd _ _).2.2.1
  | prog => exact (show f = _ from hc) ▸ (hd _ _).2.2.2.1

/-- Only an operation is in a request. -/
theorem decodeOp_isWire {op : Byte} {arg : Word} {i : Instr} (h : decodeOp op arg = .ok i) : i.isWire = false := by
  unfold decodeOp at h
  split at h <;> cases h <;> rfl

namespace Machine

/-- An answer, as the statements write it. -/
theorem State.respond_eq_answeredBy (s : State) (r : Reply) : s.respond r = s.answeredBy r := by cases r <;> rfl

/-- The answer on the wires, as the statements write it. -/
theorem State.wireReply_eq_onWires (s : State) : s.wireReply = s.onWires := rfl

/-- Sent goes to Acknowledged on 0x55 and to Failed on everything else (R138, R140). -/
theorem CmdState.answered_sent (r : Reply) :
    CmdState.sent.answered r = if r = .ok 0x55 then .acknowledged else .failed := by
  cases r with
  | fail n => rfl
  | ok x =>
    by_cases h : x = 0x55
    · subst h; rfl
    · rw [if_neg (by simpa using h)]
      show (if decide (x = 0x55) then _ else _) = _
      rw [decide_eq_false h]; rfl

/-- The command states move out of Sent only. -/
theorem CmdState.answered_of_ne {c : CmdState} (h : c ≠ .sent) (r : Reply) : c.answered r = c := by
  cases c <;> first | rfl | exact absurd rfl h

theorem CmdState.answered_eq_after (c : CmdState) (r : Reply) : c.answered r = c.after r := by
  unfold CmdState.after
  split
  · next h => rw [h, CmdState.answered_sent]
  · next h => exact CmdState.answered_of_ne h r

/-- No answer leaves a command state in Sent. -/
theorem CmdState.answered_ne_sent (c : CmdState) (r : Reply) : c.answered r ≠ .sent := by
  by_cases h : c = .sent
  · rw [h, CmdState.answered_sent]; split <;> simp
  · rw [CmdState.answered_of_ne h]; exact h

end Machine

end Sys2Proof
end

