-- ==== Sys2Proof/Tests/Slice0.lean ====
section
/-! SUPPORT. The model's own tests. Expected values come from spec/95_test_vectors.md and from the encodings of
spec/30_encoding.md, worked by hand; none is the model's own answer. First the checks of well-formedness, then the decoder on
words written out bit by bit, then single steps, then a witness for the hypotheses of every statement that has any. -/

open Sys2Proof Sys2Proof.Machine

namespace Sys2Proof.Tests

-- Helpers.

/-- An operation in hand, SEQ = Run, after `k` exchanges with the answer `r` in hand. -/
def running (op : Byte) (arg : Word) (k : BitVec 3 := 0) (r : Option Reply := none) : State :=
  { State.reset with seq := .run, reqOp := op, reqArg := arg, stepCount := k, reply := r }

/-- A frame in flight. -/
def inFlight (f : Frame) (p : Pins) (m : Memory := []) : State :=
  { State.reset with seq := .waitX, xout := some f, pins := p, dev := m }

/-- The wires answer `b`, and the device does `m`. -/
def wires (b : Byte) (m : DeviceMove) : Pins := { xrspValid := true, xrspData := b, device := m }

/-- The wires report a failure with payload `n` and the byte 0x55 beside it, and the device does `m`. -/
def failing (n : Nat) (m : DeviceMove) : Pins := { wires 0x55 m with xrspFail := true, xrspInfo := n }

/-- A field of the next state, if there is one. -/
def after {α : Type} (r : Result) (get : State → α) : Option α :=
  match r with
  | .next t => some (get t)
  | .fault _ => none
  | .refused _ => none

/-- An operation has ended in an error, ZERO_STATE is Failed. -/
def ended (p : Pins) : State :=
  { State.reset with seq := .done, rsp := .err .invalidArgument, zeroState := .failed, pins := p }

/-- The default build with the other order of a two-register setter (R124). -/
def highFirst : Config := { Config.default with rmw2Order := .writeHighFirst }

/-- What a step leaves in RSP. -/
def rspOf (s : State) : Option Rsp := after (step s) (·.rsp)

/-- The frame a step leaves in XOUT. -/
def frameOf (s : State) : Option (Option Frame) := after (step s) (·.xout)

/-- The answer `b` of exchange `k` is in hand. -/
def answered (op : Byte) (arg : Word) (k : BitVec 3) (b : Byte) : State := running op arg k (some (.ok b))

-- Well-formedness: an ill-formed term for each check.

theorem test_wireRd_address_is_checked : (Instr.wireRd 0x200 0).wellFormed .default = false := by decide
theorem test_wireRd_filler_is_checked : (Instr.wireRd 0x1FF 1).wellFormed .default = false := by decide
theorem test_wireWr_address_is_checked : (Instr.wireWr 0x200 0).wellFormed .default = false := by decide
theorem test_wireZero_fields_are_checked :
    (Instr.wireZero 0x001 0).wellFormed .default = false ∧ (Instr.wireZero 0 1).wellFormed .default = false := by decide
theorem test_wireProg_fields_are_checked :
    (Instr.wireProg 0x001 0).wellFormed .default = false ∧ (Instr.wireProg 0 1).wellFormed .default = false := by decide
theorem test_wireBurst_is_never_sent : (Instr.wireBurst 0 0).wellFormed .default = false := by decide
theorem test_codec_addresses_are_checked :
    (Instr.rdreg 0x200).wellFormed .default = false ∧ (Instr.wrreg 0xFFF 0).wellFormed .default = false ∧
    (Instr.rmw 0x200 0 0).wellFormed .default = false := by decide
theorem test_suid_is_checked : (Instr.suid 256).wellFormed .default = false := by decide
theorem test_sres_is_checked :
    (Instr.sres 0).wellFormed .default = false ∧ (Instr.sres 16385).wellFormed .default = false ∧
    (Instr.sres 0xFFFFFFFF).wellFormed .default = false := by decide
theorem test_szpos_is_checked :
    (Instr.szpos 0xFFFFFFFF).wellFormed .default = false ∧ (Instr.szpos 0x01680001).wellFormed .default = false ∧
    (Instr.szpos 0x80000000).wellFormed .default = false := by decide
theorem test_szedge_is_checked : (Instr.szedge 2).wellFormed .default = false := by decide
theorem test_szwid_is_checked : (Instr.szwid 8).wellFormed .default = false := by decide
theorem test_szph_is_checked : (Instr.szph 4).wellFormed .default = false := by decide
theorem test_sdir_is_checked : (Instr.sdir 2).wellFormed .default = false := by decide
theorem test_burst_is_refused : Instr.burst.wellFormed .default = false := by decide
theorem test_boundaries_are_well_formed :
    (Instr.rdreg 0x1FF).wellFormed .default = true ∧ (Instr.sres 1).wellFormed .default = true ∧
    (Instr.sres 16384).wellFormed .default = true ∧ (Instr.szpos 0x01680000).wellFormed .default = true ∧
    (Instr.szwid 7).wellFormed .default = true ∧ (Instr.szph 3).wellFormed .default = true ∧
    (Instr.suid 255).wellFormed .default = true := by decide

-- Decoding: every constructor, by a word written out from rules R53, R56 and R57, R58.

theorem test_decode_wire_commands :
    decodeTableWord 24 0b0011_000111111111_00000000 = some (.wireRd 0x1FF 0x00) ∧
    decodeTableWord 24 0b0110_000111111111_11111111 = some (.wireWr 0x1FF 0xFF) ∧
    decodeTableWord 24 0b0101_000000000000_00000000 = some (.wireZero 0x000 0x00) ∧
    decodeTableWord 24 0b1100_000000000000_00000000 = some (.wireProg 0x000 0x00) ∧
    decodeTableWord 24 0b1010_000000000011_10000001 = some (.wireBurst 0x003 0x81) := by decide
theorem test_decode_rdreg :
    decodeTableWord 40 0b00000001_00000000000000000000_000000001010 = some (.rdreg 0x00A) := by decide
theorem test_decode_rdreg_ignores_the_other_bits : decodeTableWord 40 0x01_FFFFF00A = some (.rdreg 0x00A) := by decide
theorem test_decode_wrreg :
    decodeTableWord 40 0b00000010_000000000000_000000000001_01011010 = some (.wrreg 0x001 0x5A) := by decide
theorem test_decode_rmw :
    decodeTableWord 40 0b00000011_0000_00001000_000000001010_00011000 = some (.rmw 0x00A 0x08 0x18) := by decide
theorem test_decode_rdangle :
    decodeTableWord 40 0b00001000_00000000000000000000000000000000 = some .rdangle := by decide
theorem test_decode_getters :
    decodeTableWord 40 0b00010000_00000000000000000000000000000000 = some .guid ∧
    decodeTableWord 40 0b00010010_00000000000000000000000000000000 = some .gres ∧
    decodeTableWord 40 0b00010100_00000000000000000000000000000000 = some .gabz ∧
    decodeTableWord 40 0b00010110_00000000000000000000000000000000 = some .gswap ∧
    decodeTableWord 40 0b00011000_00000000000000000000000000000000 = some .gzpos ∧
    decodeTableWord 40 0b00011010_00000000000000000000000000000000 = some .gzedge ∧
    decodeTableWord 40 0b00011100_00000000000000000000000000000000 = some .gzwid ∧
    decodeTableWord 40 0b00011110_00000000000000000000000000000000 = some .gzph ∧
    decodeTableWord 40 0b00100000_11111111111111111111111111111111 = some .gdir := by decide
theorem test_decode_setters :
    decodeTableWord 40 0b00010001_00000000000000000000000001011010 = some (.suid 0x5A) ∧
    decodeTableWord 40 0b00010011_00000000000000000000010000000000 = some (.sres 1024) ∧
    decodeTableWord 40 0b00010101_10000000000000000000000000000000 = some (.sabz 0x80000000) ∧
    decodeTableWord 40 0b00010111_00000000000000000000000000000111 = some (.sswap 7) ∧
    decodeTableWord 40 0b00011001_00000000010110100000000000000000 = some (.szpos 0x005A0000) ∧
    decodeTableWord 40 0b00011011_00000000000000000000000000000001 = some (.szedge 1) ∧
    decodeTableWord 40 0b00011101_00000000000000000000000000000101 = some (.szwid 5) ∧
    decodeTableWord 40 0b00011111_00000000000000000000000000000010 = some (.szph 2) ∧
    decodeTableWord 40 0b00100001_00000000000000000000000000000001 = some (.sdir 1) := by decide
theorem test_decode_commands :
    decodeTableWord 40 0b00110000_00000000000000000000000000000000 = some .zero ∧
    decodeTableWord 40 0b00110001_00000000000000000000000000000000 = some .prog ∧
    decodeTableWord 40 0b00110010_00000000000000000000000000000000 = some .burst := by decide
theorem test_decode_rejects_by_name :
    decodeWord .default 40 0x04_00000000 = .error (.unknownOperation 0x04) ∧
    decodeWord .default 40 0xFF_FFFFFFFF = .error (.unknownOperation 0xFF) ∧
    decodeWord .default 24 0xF00000 = .error (.undefinedCommand 0xF) ∧
    decodeWord .default 32 0 = .error (.noSuchFormat 32) := by decide

-- The framer (R53, section 2.1 of the vectors).

theorem test_frames :
    packFrame Config.default.opcRd 0x1FF 0x00 = 0x31FF00 ∧ packFrame Config.default.opcWr 0x001 0x5A = 0x60015A ∧
    packFrame Config.default.opcZero 0 0 = 0x500000 ∧ packFrame Config.default.opcProg 0 0 = 0xC00000 := by decide

-- The arithmetic of the codec (sections 2.3 and 2.4 of the vectors).

theorem test_crc_byte_update :
    [0x00, 0x01, 0x55, 0xD1, 0xFF].map (crc8Update 0) = [0x00, 0x07, 0xAC, 0x39, 0xF3] := by decide
theorem test_crc_angle :
    [0x000001, 0x123456, 0x3A2B3C, 0xAABBC8, 0xAABBC9, 0xE00000, 0xFFFFFF].map (crc8Angle .composite24) =
      [0x38, 0xE9, 0x5B, 0x4F, 0x77, 0x00, 0x1A] := by decide +kernel
theorem test_crc_angle_other_reading :
    [0x1A2B3C, 0xAABBC8, 0x123456, 0x000001].map (crc8Angle .rawAngle21) = [0xB4, 0x61, 0x6E, 0x00] := by decide +kernel
theorem test_resolution_pack :
    [1, 64, 65, 1000, 16383, 16384].map (fun v => (resHigh (pprStored v), resLow (pprStored v) 0x03)) =
      [(0x00, 0x03), (0x00, 0xFF), (0x01, 0x03), (0x0F, 0x9F), (0xFF, 0xFB), (0xFF, 0xFF)] := by decide
theorem test_resolution_unpack :
    pprOf 0x00 0x03 = 1 ∧ pprOf 0x0F 0x9D = 1000 ∧ pprOf 0xFF 0xFF = 16384 ∧ pprOf 0xFF 0x00 = 16321 := by decide
theorem test_degrees_to_code :
    [0x00000B40, 0x00000B41, 0x00040000, 0x000C0000, 0x00B40000, 0x010E0000, 0x0167FFFF, 0x01680000].map (degToCode 16) =
      [0x000, 0x001, 0x02E, 0x089, 0x800, 0xBFF, 0xFFF, 0xFFF] := by decide +kernel
theorem test_sample_members :
    AngleSample.ofWord 0x5B1A2B3C true = { rawAngle := 0x034567, status := 4, crc := 0x5B, valid := true } := by decide
theorem test_meanings :
    zWidthMeaning 4 = .lsb 16 ∧ zWidthMeaning 5 = .degrees 60 ∧ zWidthMeaning 7 = .degrees 180 ∧
    zEdgeMeaning true = .falling ∧ abLeadMeaning true = .aLeadsB := by decide

-- The device's registers.

theorem test_memory_write_keeps_order :
    Memory.write [(0x001, 0x5A), (0x1FF, 0x00)] 0x008 0xFE = [(0x001, 0x5A), (0x008, 0xFE), (0x1FF, 0x00)] ∧
    Memory.read (Memory.write [(0x001, 0x5A)] 0x001 0x77) 0x001 = some 0x77 ∧ Memory.read [(0x001, 0x5A)] 0x002 = none := by
  decide

-- One step of each instruction.

theorem test_wireRd_reads : after (step (inFlight 0x300A00 Pins.answering [(0x00A, 0x5B)]))
    (fun t => (t.reply, t.stepCount, t.seq, t.xout)) = some (some (.ok 0x5B), 1, .run, none) := by decide
theorem test_wireRd_fails : after (step (inFlight 0x300A00 (failing 0x7E .ignores)))
    (fun t => (t.reply, t.stepCount)) = some (some (.fail 0x7E), 0) := by decide
theorem test_wireWr_stores : after (step (inFlight 0x60015A Pins.answering)) (·.dev) = some [(0x001, 0x5A)] := by decide
theorem test_wireWr_failed_but_stored : after (step (inFlight 0x600A5B (failing 0 .acts) [(0x00A, 0x53)]))
    (fun t => (t.dev, t.stepCount)) = some ([(0x00A, 0x5B)], 0) := by decide
theorem test_wireZero_acknowledged : after (step { inFlight 0x500000 Pins.answering with zeroState := .sent })
    (fun t => (t.zeroState, t.progState, t.reply)) = some (.acknowledged, .idle, some (.ok 0x55)) := by decide
theorem test_wireZero_not_acknowledged : after (step { inFlight 0x500000 (wires 0x54 .acts) with zeroState := .sent })
     (·.zeroState) = some .failed := by decide
theorem test_wireProg_acknowledged : after (step { inFlight 0xC00000 Pins.answering with progState := .sent })
    (fun t => (t.progState, t.zeroState)) = some (.acknowledged, .idle) := by decide
theorem test_wireProg_failed : after (step { inFlight 0xC00000 (failing 2 .acts) with progState := .sent })
     (·.progState) = some .failed := by decide
theorem test_wireBurst_gets_nothing : after (step (inFlight 0xA00000 Pins.answering)) (·.reply) =
    some (some (.fail 0)) := by decide
theorem test_rdreg_sends : frameOf (running 0x01 0xFFFFF00A) = some (some 0x300A00) := by decide
theorem test_rdreg_returns : rspOf (answered 0x01 0x0000000A 1 0x5B) = some (.ok 0x0000005B) := by decide
theorem test_wrreg_sends : frameOf (running 0x02 0x0000015A) = some (some 0x60015A) := by decide
theorem test_wrreg_refuses : rspOf (running 0x02 0x000FFF00) = some (.err .invalidArgument) := by decide
theorem test_rmw_writes : frameOf (answered 0x03 0x00800A08 1 0x53) = some (some 0x600A5B) := by decide
theorem test_rmw_outside_mask : frameOf (answered 0x03 0x00800A18 1 0x43) = some (some 0x600A5B) := by decide
theorem test_rdangle_assembles : after (step { answered 0x08 0 3 0x3C with composite := 0x1A2B00 })
    (fun t => (t.composite, t.xout)) = some (0x1A2B3C, some 0x300600) := by decide
theorem test_rdangle_mismatch :
    rspOf { running 0x08 0 4 with composite := 0xAABBC9, crcRx := 0x4F, crc := 0x77 } =
      some (.err (.checksumMismatch 0x4FAABBC9)) := by decide
theorem test_guid_returns : rspOf (answered 0x10 0 1 0x5A) = some (.ok 0x5A) := by decide
theorem test_suid_sends : frameOf (running 0x11 0x0000005A) = some (some 0x60015A) := by decide
theorem test_gres_returns : rspOf { answered 0x12 0 2 0xFE with tmp := 0x0F } = some (.ok 1024) := by decide
theorem test_sres_computes : after (step (answered 0x13 1024 1 0x02)) (fun t => (t.xout, t.wdh, t.wdl)) =
    some (some 0x60070F, 0x0F, 0xFE) := by decide
theorem test_sres_writes_low : frameOf { answered 0x13 1024 2 0x00 with wdl := 0xFE } = some (some 0x6008FE) := by
  decide
theorem test_gabz_returns : rspOf (answered 0x14 0 1 0xFE) = some (.ok 1) := by decide
theorem test_sabz_sets : frameOf (answered 0x15 0x80000000 1 0xFC) = some (some 0x6008FE) := by decide
theorem test_sabz_clears : frameOf (answered 0x15 0 1 0xFF) = some (some 0x6008FD) := by decide
theorem test_gswap_returns : rspOf (answered 0x16 0 1 0xFE) = some (.ok 0) := by decide
theorem test_sswap_sets : frameOf (answered 0x17 7 1 0xFE) = some (some 0x6008FF) := by decide
theorem test_sswap_clears : frameOf (answered 0x17 0 1 0x9D) = some (some 0x60089C) := by decide
theorem test_gzpos_returns : rspOf { answered 0x18 0 2 0x0B with tmp := 0x40 } = some (.ok 0x400) := by decide
theorem test_szpos_computes : after (step (answered 0x19 0x000C0000 1 0x34)) (fun t => (t.xout, t.wdh, t.wdl)) =
    some (some 0x600908, 0x08, 0x94) := by decide +kernel
theorem test_szpos_high_first : frameOf { running 0x19 0x005A0000 with build := highFirst } =
    some (some 0x600940) := by decide +kernel
theorem test_gzedge_returns : rspOf (answered 0x1A 0 1 0x5B) = some (.ok 1) := by decide
theorem test_szedge_writes : frameOf (answered 0x1B 1 1 0x53) = some (some 0x600A5B) := by decide
theorem test_gzwid_returns : rspOf (answered 0x1C 0 1 0x5B) = some (.ok 3) := by decide
theorem test_szwid_writes : frameOf (answered 0x1D 5 1 0x5B) = some (some 0x600A5D) := by decide
theorem test_gzph_returns : rspOf (answered 0x1E 0 1 0x95) = some (.ok 2) := by decide
theorem test_szph_writes : frameOf (answered 0x1F 2 1 0x15) = some (some 0x600B95) := by decide
theorem test_gdir_returns : rspOf (answered 0x20 0 1 0xF7) = some (.ok 0) := by decide
theorem test_sdir_writes : frameOf (answered 0x21 1 1 0x04) = some (some 0x600D0C) := by decide
theorem test_zero_sends : after (step (running 0x30 0)) (fun t => (t.xout, t.zeroState)) = some (some 0x500000, .sent) := by
  decide
theorem test_zero_refused : rspOf (answered 0x30 0 1 0x56) = some (.err .unexpectedAcknowledgement) := by decide
theorem test_prog_sends : after (step (running 0x31 0)) (fun t => (t.xout, t.progState)) = some (some 0xC00000, .sent) := by
  decide
theorem test_prog_settles : after (step (answered 0x31 0 1 0x55)) (fun t => (t.seq, t.rsp)) = some (.settle, .absent) := by
  decide
theorem test_burst_is_illegal : after (step (running 0x32 0)) (fun t => (t.rsp, t.xout, t.stepCount)) =
    some (.err .illegalOperation, none, 0) := by decide
theorem test_unknown_operation : rspOf (running 0x22 0) = some (.err .illegalOperation) := by decide

-- Around an instruction.

theorem test_failed_exchange_ends : after (step (running 0x08 0 3 (some (.fail 0x33)))) (fun t => (t.rsp, t.stepCount)) =
    some (.err (.transport 0x33), 3) := by decide
theorem test_settle_ends : after (step { running 0x31 0 1 with seq := .settle, pins := { settleElapsed := true } })
    (fun t => (t.seq, t.stepCount)) = some (.run, 1) := by decide
theorem test_request_clears_rsp : after (step (ended (Pins.request 0x10_00000000)))
    (fun t => (t.seq, t.reqOp, t.rsp, t.zeroState)) =
      some (.run, 0x10, .absent, .failed) := by decide
theorem test_word_runs_first_after_reset :
    frameOf (State.reset.withFetchWord 40 0x01_0000000A) = some (some 0x300A00) ∧
    after (step (State.reset.withFetchWord 24 0x60015A)) (·.dev) = some [(0x001, 0x5A)] := by decide
theorem test_device_is_not_known_after_zero_prog_burst_acted_on :
    after (step (inFlight 0x500000 (wires 0x55 .acts) [(0x001, 0x5A)])) (·.dev) = some [] ∧
    after (step (inFlight 0xC00000 (failing 0 .acts) [(0x001, 0x5A)])) (·.dev) = some [] ∧
    after (step (inFlight 0xA00000 (wires 0x00 .acts) [(0x001, 0x5A)])) (·.dev) = some [] ∧
    after (step (inFlight 0x500000 Pins.answering [(0x001, 0x5A)])) (·.dev) = some [(0x001, 0x5A)] ∧
    after (step (inFlight 0xC00000 (wires 0x55 .ignores) [(0x001, 0x5A)])) (·.dev) = some [(0x001, 0x5A)] := by decide
theorem test_empty_wait_takes_its_answer :
    after (step { inFlight 0 (wires 0x5A .acts) with xout := none }) (fun t => (t.reply, t.seq, t.stepCount)) =
      some (some (.ok 0x5A), .run, 1) := by decide
theorem test_ports :
    (Rsp.err (.checksumMismatch 0x5A1A2B3C)).errPort = some 3 ∧
    (Rsp.err (.checksumMismatch 0x5A1A2B3C)).valPort = some 0x5A1A2B3C ∧ (Rsp.err (.transport 0x33)).infoPort = some 0x33 ∧
    (Rsp.err (.transport 0x33)).valPort = none ∧ Rsp.absent.valid = false ∧ (Rsp.ok 0).errPort = some 0 := by decide

-- Witnesses: for each statement with hypotheses, a concrete state and operands that meet all of them together, one for each
-- clause and at the ends of its range. The name after `witness_` is the statement's.

/-- The default parameters meet the constraints of R7. -/
theorem default_ok : Config.default.Ok :=
  ⟨by decide, by decide, by simp [Config.registers, Config.default, Config.addrMax], by decide, by decide, by decide⟩

theorem witness_ResetLeavesTheTabledValues :
    ({ running 0x31 0 1 with pins := { reset := true } } : State).pins.reset = true := by decide

theorem witness_ResetLeavesTheDeviceAlone : (inFlight 0x60015A { reset := true, device := .acts }).pins.reset = true ∧
    after (step (inFlight 0x60015A { reset := true, device := .acts })) (·.dev) = some [(0x001, 0x5A)] ∧
    after (step (inFlight 0x500000 { reset := true, device := .acts } [(0x001, 0x5A)])) (·.dev) = some [] := by decide

theorem witness_RequestIsAcceptedWhenNotBusy :
    ((ended (Pins.request 0)).pins.reset = false ∧ (ended (Pins.request 0)).busy = false ∧
      (ended (Pins.request 0)).pins.reqValid = true) ∧
    State.reset.pins.reset = false ∧ State.reset.busy = false ∧ State.reset.pins.reqValid = false := by decide

theorem witness_RequestWhileBusyHasNoEffect :
    (running 0x10 0).busy = true ∧ (inFlight 0 {}).busy = true ∧
    ({ State.reset with seq := .settle } : State).busy = true := by decide

theorem witness_EnvironmentEventsAreIgnoredElsewhere : (running 0x10 0).seq ≠ .waitX ∧ (running 0x10 0).seq ≠ .settle := by
  decide

theorem witness_PortsFollowTheState : (inFlight 0x300A00 {}).seq = .waitX ∧ (running 0x10 0).seq ≠ .waitX := by decide

theorem witness_StepRunsTheOperationInHand :
    (running 0x01 0x1FF).pins.reset = false ∧ (running 0x01 0x1FF).seq = .run ∧
    decodeOp (running 0x01 0x1FF).reqOp (running 0x01 0x1FF).reqArg = .ok (.rdreg 0x1FF) := by decide

theorem witness_StepRunsTheFrameInFlight :
    (inFlight 0x61FFFF {}).pins.reset = false ∧ (inFlight 0x61FFFF {}).seq = .waitX ∧
    (inFlight 0x61FFFF {}).xout = some 0x61FFFF ∧
    decodeFrame (inFlight 0x61FFFF {}).build 0x61FFFF = .ok (.wireWr 0x1FF 0xFF) := by decide

theorem witness_IllegalOperationIsRaisedAtDecode :
    (running 0x33 0).pins.reset = false ∧ (running 0x33 0).seq = .run ∧
    decodeOp (running 0x33 0).reqOp (running 0x33 0).reqArg = .error (.unknownOperation 0x33) := by decide

theorem witness_SettleEndsOnlyWithItsEvent : ∀ e : Bool,
    ({ running 0x31 0 1 with seq := .settle, pins := { settleElapsed := e } } : State).pins.reset = false ∧
    ({ running 0x31 0 1 with seq := .settle, pins := { settleElapsed := e } } : State).seq = .settle := by decide

theorem witness_ExchangeWithoutAnswerWaits : (inFlight 0x300A00 {}).pins.xrspValid = false := by decide

theorem witness_ExchangeAnsweredOnTheWires : ∀ m, m = DeviceMove.acts ∨ m = DeviceMove.ignores →
    (inFlight 0x60015A (failing 0x7E m)).build.Ok ∧ (inFlight 0x60015A (failing 0x7E m)).pins.xrspValid = true ∧
    (inFlight 0x60015A (failing 0x7E m)).pins.device ≠ .ideal := by
  rintro m (rfl | rfl) <;> exact ⟨default_ok, by decide, by decide⟩

theorem witness_CommandAnswerMovesItsState :
    (inFlight 0x500000 (wires 0x55 .acts)).build.Ok ∧ (inFlight 0x500000 (wires 0x55 .acts)).pins.xrspValid = true ∧
    (inFlight 0x500000 (wires 0x55 .acts)).pins.device ≠ .ideal :=
  ⟨default_ok, by decide, by decide⟩

theorem witness_IdealDeviceAnswers :
    let s := inFlight 0x31FF00 Pins.answering [(0x1FF, 0x5B)]
    s.build.Ok ∧ s.pins.xrspValid = true ∧ s.pins.device = .ideal ∧ (0x1FF : Addr) ≤ 0x1FF ∧
    Memory.read s.dev (0x1FF : Addr).toNat = some 0x5B ∧ Memory.read s.dev (0x000 : Addr).toNat = none ∧
    ¬ (0x200 : Addr) ≤ 0x1FF :=
  ⟨default_ok, by decide, by decide, by decide, by decide, by decide, by decide⟩

theorem witness_WireCommandFrame :
    (inFlight 0x60015A Pins.answering).build.Ok ∧
    after (exec (.wireWr 0x001 0x5A) (inFlight 0x60015A Pins.answering)) (·.seq) = some .run :=
  ⟨default_ok, by decide⟩

theorem witness_RdregReadsOneRegister :
    (running 0x01 0x200).AtStart ∧ 0x1FF < (0x200 : Addr).toNat ∧ (0x1FF : Addr).toNat ≤ 0x1FF ∧
    (answered 0x01 0x1FF 1 0x5B).Answered 1 0x5B ∧ (running 0x01 0 0 (some (.fail 7))).reply = some (.fail 7) :=
  ⟨⟨rfl, rfl⟩, by decide, by decide, ⟨rfl, rfl⟩, rfl⟩

theorem witness_WrregWritesOneRegister :
    (running 0x02 0x20000).AtStart ∧ 0x1FF < (0x200 : Addr).toNat ∧ (0x1FF : Addr).toNat ≤ 0x1FF ∧
    (answered 0x02 0x15A 1 0x00).Answered 1 0x00 ∧ (running 0x02 0 0 (some (.fail 7))).reply = some (.fail 7) :=
  ⟨⟨rfl, rfl⟩, by decide, by decide, ⟨rfl, rfl⟩, rfl⟩

theorem witness_RmwReadsThenWritesTheSameRegister :
    (running 0x03 0x00800A08).AtStart ∧ 0x1FF < (0x200 : Addr).toNat ∧ (0x1FF : Addr).toNat ≤ 0x1FF ∧
    (answered 0x03 0x00800A08 1 0x53).Answered 1 0x53 ∧ (answered 0x03 0x00800A08 2 0).Answered 2 0 ∧
    (running 0x03 0 1 (some (.fail 7))).reply = some (.fail 7) :=
  ⟨⟨rfl, rfl⟩, by decide, by decide, ⟨rfl, rfl⟩, ⟨rfl, rfl⟩, rfl⟩

theorem witness_RdangleAssemblesAndValidates :
    (running 0x08 0).AtStart ∧ (∀ k, k ∈ [1, 2, 3, 4] → (answered 0x08 0 k 0x3C).Answered k 0x3C) ∧
    (running 0x08 0 4).stepCount = 4 ∧ (running 0x08 0 4).reply = none ∧
    (running 0x08 0 3 (some (.fail 7))).reply = some (.fail 7) :=
  ⟨⟨rfl, rfl⟩, fun _ _ => ⟨rfl, rfl⟩, rfl, rfl, rfl⟩

theorem witness_AngleReadEndsWithItsSample :
    State.reset.build.Ok ∧ State.reset.busy = false ∧ DeviceMove.acts ≠ .ideal ∧ DeviceMove.ignores ≠ .ideal ∧ 0 < 4 ∧ 3 < 4 :=
  ⟨default_ok, by decide, by decide, by decide, by decide, by decide⟩

theorem witness_UserIdAccessors :
    (running 0x11 256).AtStart ∧ 255 < (256 : Word).toNat ∧ (255 : Word).toNat ≤ 255 ∧
    (answered 0x11 255 1 0x00).Answered 1 0x00 ∧ (running 0x10 0 0 (some (.fail 7))).reply = some (.fail 7) :=
  ⟨⟨rfl, rfl⟩, by decide, by decide, ⟨rfl, rfl⟩, rfl⟩

theorem witness_GresReadsHighThenLow :
    (running 0x12 0).AtStart ∧ (answered 0x12 0 1 0x0F).Answered 1 0x0F ∧ (answered 0x12 0 2 0xFE).Answered 2 0xFE ∧
    (running 0x12 0 1 (some (.fail 7))).reply = some (.fail 7) := ⟨⟨rfl, rfl⟩, ⟨rfl, rfl⟩, ⟨rfl, rfl⟩, rfl⟩

theorem witness_SresWritesHighThenLow :
    (running 0x13 0).AtStart ∧ (0 : Word).toNat = 0 ∧ 16384 < (16385 : Word).toNat ∧ 1 ≤ (1 : Word).toNat ∧
    (16384 : Word).toNat ≤ 16384 ∧ (running 0x13 1).build.rmw2Order = .readFirst ∧ highFirst.rmw2Order = .writeHighFirst ∧
    (∀ k, k ∈ [1, 2, 3] → (answered 0x13 1 k 0x02).Answered k 0x02) ∧
    (running 0x13 1 2 (some (.fail 7))).reply = some (.fail 7) :=
  ⟨⟨rfl, rfl⟩, rfl, by decide, by decide, by decide, rfl, rfl, fun _ _ => ⟨rfl, rfl⟩, rfl⟩

theorem witness_AbzBitAccessors :
    (running 0x15 1).AtStart ∧ (answered 0x15 1 1 0xFC).Answered 1 0xFC ∧ (answered 0x15 1 2 0).Answered 2 0 ∧
    (running 0x15 1 1 (some (.fail 7))).reply = some (.fail 7) := ⟨⟨rfl, rfl⟩, ⟨rfl, rfl⟩, ⟨rfl, rfl⟩, rfl⟩

theorem witness_GzposReadsHighThenLow :
    (running 0x18 0).AtStart ∧ (answered 0x18 0 1 0x40).Answered 1 0x40 ∧ (answered 0x18 0 2 0x0B).Answered 2 0x0B ∧
    (running 0x18 0 1 (some (.fail 7))).reply = some (.fail 7) := ⟨⟨rfl, rfl⟩, ⟨rfl, rfl⟩, ⟨rfl, rfl⟩, rfl⟩

theorem witness_SzposWritesHighThenLow :
    (running 0x19 0).AtStart ∧ (0xFFFFFFFF : Word).toInt < 0 ∧
    360 * 2 ^ (running 0x19 0).build.degFrac < (0x01680001 : Word).toInt ∧
    0 ≤ (0 : Word).toInt ∧ (0x01680000 : Word).toInt ≤ 360 * 2 ^ (running 0x19 0).build.degFrac ∧
    (running 0x19 0).build.rmw2Order = .readFirst ∧ highFirst.rmw2Order = .writeHighFirst ∧
    (∀ k, k ∈ [1, 2, 3] → (answered 0x19 0 k 0x34).Answered k 0x34) ∧
    (running 0x19 0 2 (some (.fail 7))).reply = some (.fail 7) :=
  ⟨⟨rfl, rfl⟩, by decide, by decide, by decide, by decide, rfl, rfl, fun _ _ => ⟨rfl, rfl⟩, rfl⟩

theorem witness_IndexEdgeAndWidthAccessors :
    (running 0x1B 2).AtStart ∧ 1 < (2 : Word).toNat ∧ (1 : Word).toNat ≤ 1 ∧ 7 < (8 : Word).toNat ∧ (7 : Word).toNat ≤ 7 ∧
    (answered 0x1D 7 1 0x5B).Answered 1 0x5B ∧ (answered 0x1D 7 2 0).Answered 2 0 ∧
    (running 0x1D 7 1 (some (.fail 7))).reply = some (.fail 7) :=
  ⟨⟨rfl, rfl⟩, by decide, by decide, by decide, by decide, ⟨rfl, rfl⟩, ⟨rfl, rfl⟩, rfl⟩

theorem witness_IndexPhaseAccessors :
    (running 0x1F 4).AtStart ∧ 3 < (4 : Word).toNat ∧ (3 : Word).toNat ≤ 3 ∧ (answered 0x1F 3 1 0x15).Answered 1 0x15 ∧
    (answered 0x1F 3 2 0).Answered 2 0 ∧ (running 0x1F 3 1 (some (.fail 7))).reply = some (.fail 7) :=
  ⟨⟨rfl, rfl⟩, by decide, by decide, ⟨rfl, rfl⟩, ⟨rfl, rfl⟩, rfl⟩

theorem witness_AbLeadAccessors :
    (running 0x21 2).AtStart ∧ 1 < (2 : Word).toNat ∧ (1 : Word).toNat ≤ 1 ∧ (answered 0x21 1 1 0x04).Answered 1 0x04 ∧
    (answered 0x21 1 2 0).Answered 2 0 ∧ (running 0x21 1 1 (some (.fail 7))).reply = some (.fail 7) :=
  ⟨⟨rfl, rfl⟩, by decide, by decide, ⟨rfl, rfl⟩, ⟨rfl, rfl⟩, rfl⟩

theorem witness_ZeroSendsAndJudgesTheAcknowledgement :
    (running 0x30 0).AtStart ∧ (answered 0x30 0 1 0x55).Answered 1 0x55 ∧ (0x54 : Byte) ≠ 0x55 ∧
    (answered 0x30 0 1 0x54).Answered 1 0x54 ∧ (running 0x30 0 0 (some (.fail 1))).reply = some (.fail 1) ∧
    (let s : State := { inFlight 0x500000 (wires 0x55 .acts) with zeroState := .sent }
     s.build.Ok ∧ s.pins.xrspValid = true ∧ s.pins.device ≠ .ideal ∧ s.zeroState = .sent) :=
  ⟨⟨rfl, rfl⟩, ⟨rfl, rfl⟩, by decide, ⟨rfl, rfl⟩, rfl, default_ok, rfl, by decide, rfl⟩

theorem witness_ProgSendsAndWaitsToSettle :
    (running 0x31 0).AtStart ∧ (answered 0x31 0 1 0x55).Answered 1 0x55 ∧ (0x00 : Byte) ≠ 0x55 ∧
    (answered 0x31 0 1 0x00).Answered 1 0x00 ∧ (running 0x31 0 1).stepCount = 1 ∧ (running 0x31 0 1).reply = none ∧
    (running 0x31 0 0 (some (.fail 2))).reply = some (.fail 2) ∧
    (let s : State := { inFlight 0xC00000 (wires 0x00 .acts) with progState := .sent }
     s.build.Ok ∧ s.pins.xrspValid = true ∧ s.pins.device ≠ .ideal ∧ s.progState = .sent) ∧
    (let s : State := { running 0x31 0 1 with seq := .settle, pins := { settleElapsed := true } }
     s.pins.reset = false ∧ s.seq = .settle) :=
  ⟨⟨rfl, rfl⟩, ⟨rfl, rfl⟩, by decide, ⟨rfl, rfl⟩, rfl, rfl, rfl, ⟨default_ok, rfl, by decide, rfl⟩, rfl, rfl⟩

theorem witness_CommandSucceedsIffAcknowledged :
    (ended {}).build.Ok ∧ (ended {}).busy = false ∧ (Instr.prog = .zero ∨ Instr.prog = .prog) ∧
    DeviceMove.acts ≠ .ideal :=
  ⟨default_ok, by decide, by decide, by decide⟩

theorem witness_CommandStatesAreIndependent :
    after (exec (.rdreg 0x00A) (running 0x01 0x00A)) (·.seq) = some .waitX ∧ Instr.rdreg 0x00A ≠ .zero ∧
    Instr.rdreg 0x00A ≠ .prog := by decide

theorem witness_OperationFrame :
    (Instr.sres 1024).isWire = false ∧ after (exec (.sres 1024) (answered 0x13 1024 1 0x02)) (·.seq) = some .waitX ∧
    Instr.prog.isWire = false ∧ after (exec .prog (answered 0x31 0 1 0x55)) (·.seq) = some .settle := by decide

theorem witness_ArgumentOutOfRangeIsRefused :
    (running 0x13 0).AtStart ∧
    (∀ i ∈ [Instr.rdreg 0x200, .wrreg 0x200 0, .rmw 0x200 0 0, .suid 256, .sres 0, .sres 16385, .szpos 0xFFFFFFFF,
      .szpos 0x01680001, .szedge 2, .szwid 8, .szph 4, .sdir 2], badArgument Config.default i) ∧
    (0xFFFFF00A : Word).extractLsb' 0 12 = (0x00A : Word).extractLsb' 0 12 ∧
    (0xFFF00A5A : Word).extractLsb' 0 20 = (0x00A5A : Word).extractLsb' 0 20 ∧
    (0xF0800A08 : Word).extractLsb' 0 28 = (0x00800A08 : Word).extractLsb' 0 28 ∧
    (Instr.szph 4).isWire = false ∧ (running 0x1F 4).rsp = .absent ∧
    after (exec (.szph 4) (running 0x1F 4)) (·.rsp) = some (.err .invalidArgument) :=
  ⟨⟨rfl, rfl⟩, by simp [badArgument, Config.default], by decide, by decide, by decide, rfl, rfl, by decide⟩

theorem witness_ErrorTable :
    Config.default.Ok ∧ Instr.rdangle.isWire = false ∧ mayEndIn Config.default .rdangle .checksum ∧
    mayEndIn Config.default .zero .unexpectedAck ∧ mayEndIn Config.default .burst .illegal ∧
    mayEndIn Config.default (.szph 4) .invalidArgument ∧ mayEndIn Config.default .guid .transport ∧
    ¬ mayEndIn Config.default (.rdreg 0x200) .transport ∧ (running 0x1F 4).rsp = .absent ∧
    after (exec (.szph 4) (running 0x1F 4)) (·.rsp) = some (.err .invalidArgument) ∧
    (running 0x00 0).pins.reset = false ∧ (running 0x00 0).seq = .run ∧
    decodeOp (running 0x00 0).reqOp (running 0x00 0).reqArg = .error (.unknownOperation 0x00) ∧
    after (step (running 0x00 0)) (·.seq) = some .done :=
  ⟨default_ok, rfl, rfl, .inl rfl, rfl, by simp [mayEndIn, badArgument], ⟨rfl, by simp, id⟩,
    fun h => h.2.2 (by simp [badArgument]), rfl, by decide, rfl, rfl, by decide, by decide⟩

theorem witness_TransportErrorEndsEveryOperation :
    Instr.gdir.isWire = false ∧ Instr.gdir ≠ .burst ∧ (running 0x20 0 0 (some (.fail 0xFF))).reply = some (.fail 0xFF) := by
  decide

/-- RDREG has just been accepted. -/
theorem running_meets_the_invariant : (running 0x01 0x00A).Inv :=
  ⟨default_ok, by decide, ⟨by simp [running, State.reset], by simp [running]⟩,
    rfl, rfl, by decide, by decide, Or.inl rfl⟩

/-- RDREG has its answer. -/
theorem answered_meets_the_invariant : (answered 0x01 0x00A 1 0x5B).Inv :=
  ⟨default_ok, by decide, ⟨by simp [answered, running, State.reset], by simp [answered, running]⟩,
    rfl, rfl, by decide, by decide, by decide, by decide, trivial, by simp, by simp⟩

theorem witness_ExchangesFollowTheTable :
    ((running 0x01 0x00A).Inv ∧ (running 0x01 0x00A).seq = .run ∧ (running 0x01 0x00A).inHand = .ok (.rdreg 0x00A) ∧
      after (exec (.rdreg 0x00A) (running 0x01 0x00A)) (·.seq) = some .waitX) ∧
    (answered 0x01 0x00A 1 0x5B).Inv ∧ (answered 0x01 0x00A 1 0x5B).inHand = .ok (.rdreg 0x00A) ∧
    after (exec (.rdreg 0x00A) (answered 0x01 0x00A 1 0x5B)) (·.rsp) = some (.ok 0x5B) :=
  ⟨⟨running_meets_the_invariant, by decide, by decide, by decide⟩, answered_meets_the_invariant, by decide, by decide⟩

theorem witness_DecodeOfEncodeIsTheInstruction : Config.default.opcs.Nodup ∧ highFirst.opcs.Nodup := by decide

theorem witness_EncodeOfDecodeIsTheWord :
    decodeFrame Config.default 0x60015A = .ok (.wireWr 0x001 0x5A) ∧ decodeRequest 0x01_FFFFF00A = .ok (.rdreg 0x00A) := by
  decide

theorem witness_BitfieldInsertAndExtract :
    (4 + 4 ≤ 8 ∧ (0x0F : Byte).toNat < 2 ^ 4) ∧ (0 + 8 ≤ 8 ∧ (0xFF : Byte).toNat < 2 ^ 8) := by decide

theorem witness_ResolutionPacksAndUnpacks :
    (1 ≤ (1 : Word).toNat ∧ (1 : Word).toNat ≤ 16384) ∧ (1 ≤ (16384 : Word).toNat ∧ (16384 : Word).toNat ≤ 16384) := by
  decide

theorem witness_ZeroCodeIsRoundedHalfAwayFromZero :
    (0 ≤ (0 : Word).toInt ∧ (0 : Word).toInt ≤ 360 * 2 ^ 16) ∧
    (0 ≤ (0x01680000 : Word).toInt ∧ (0x01680000 : Word).toInt = 360 * 2 ^ 16) := by decide

theorem witness_CrcLaws : (20 < 21) ∧ (0xE00000 : Composite) &&& 0x1FFFFF = 0 := by decide

theorem witness_StepKeepsTheInvariant :
    (running 0x01 0x00A).Inv ∧ after (step (running 0x01 0x00A)) (·.seq) = some .waitX :=
  ⟨running_meets_the_invariant, by decide⟩

theorem witness_NoStepFromTheInvariantStops : (answered 0x01 0x00A 1 0x5B).Inv := answered_meets_the_invariant

/-- The device of program P2 with every register RPC names known. -/
def known : State :=
  { State.reset with
    dev := [(0x001, 0x77), (0x003, 0xAA), (0x004, 0xBB), (0x005, 0xC8), (0x006, 0x4F), (0x007, 0x0F), (0x008, 0x9D),
      (0x009, 0x12), (0x00A, 0x34), (0x00B, 0x2A), (0x00D, 0x04)] }

theorem witness_NoRuleReadsARegisterBeforeItsWrite :
    known.busy = false ∧
    after (runWith [Pins.request 0x12_00000000, {}, Pins.ideal] known) (fun t => (t.stepCount, t.reply)) =
      some (1, some (.ok 0x0F)) := by decide

theorem witness_StepKeepsBuildAndMemoryForm :
    Memory.wf (inFlight 0x60015A Pins.answering [(0x000, 1), (0x1FF, 2)]).dev ∧
    after (step (inFlight 0x60015A Pins.answering [(0x000, 1), (0x1FF, 2)])) (·.seq) = some .run := by decide

theorem witness_EveryOperationEndsWithinTenSteps :
    (running 0x01 0x00A).Inv ∧ (running 0x01 0x00A).busy = true ∧ (List.replicate 10 Pins.ideal).length = 10 ∧
    ∀ p ∈ List.replicate 10 Pins.ideal,
      p.reset = false ∧ p.reqValid = false ∧ p.xrspValid = true ∧ p.settleElapsed = true :=
  ⟨running_meets_the_invariant, by decide, by decide, by decide⟩

theorem witness_ReadModifyWriteLaw :
    known.build.Ok ∧ known.busy = false ∧ (0x00A : Addr) ≤ 0x1FF ∧ (0x08 : Byte) &&& ~~~0x08 = 0 ∧
    Memory.read known.dev (0x00A : Addr).toNat = some 0x34 :=
  ⟨default_ok, by decide, by decide, by decide, by decide⟩

theorem witness_SettersAndGettersRoundTrip :
    known.build.Ok ∧ known.busy = false ∧ 1 ≤ (16384 : Word).toNat ∧ (16384 : Word).toNat ≤ 16384 ∧
    0 ≤ (0x01680000 : Word).toInt ∧ (0x01680000 : Word).toInt ≤ 360 * 2 ^ known.build.degFrac ∧ (255 : Word).toNat ≤ 255 ∧
    (1 : Word).toNat ≤ 1 ∧ (7 : Word).toNat ≤ 7 ∧ (3 : Word).toNat ≤ 3 :=
  ⟨default_ok, by decide, by decide, by decide, by decide, by decide, by decide, by decide, by decide, by decide⟩

theorem witness_NoSetterDisturbsAnotherField :
    known.build.Ok ∧ known.busy = false ∧ setterOf (.szedge 1) = some .zEdge ∧ getterOf .gzwid = some .zWidth ∧
    Param.zEdge ≠ .zWidth ∧ (∀ a ∈ known.build.registers, (Memory.read known.dev a.toNat).isSome) ∧
    setterOf (.szph 3) = some .zPhase ∧ Memory.read known.dev known.build.addrUvwCfg.toNat = some 0x2A ∧
    setterOf (.sdir 1) = some .abLead ∧ Memory.read known.dev known.build.addrHyst.toNat = some 0x04 :=
  ⟨default_ok, by decide, by decide, by decide, by decide,
    by simp [Config.registers, known, State.reset, Config.default, Memory.read], by decide, by decide, by decide, by decide⟩

theorem witness_FailedPairSetterLeavesTheCompletedExchanges :
    known.build.Ok ∧ known.busy = false ∧ DeviceMove.acts ≠ .ideal ∧ DeviceMove.ignores ≠ .ideal ∧ 2 < 3 ∧
    Memory.read known.dev known.build.addrAbzResL.toNat = some 0x9D ∧
    Memory.read known.dev known.build.addrZeroL.toNat = some 0x34 ∧ 1 ≤ (1 : Word).toNat ∧ (16384 : Word).toNat ≤ 16384 ∧
    0 ≤ (0 : Word).toInt ∧ (0x01680000 : Word).toInt ≤ 360 * 2 ^ known.build.degFrac ∧
    known.build.rmw2Order = .readFirst ∧ highFirst.rmw2Order = .writeHighFirst :=
  ⟨default_ok, by decide, by decide, by decide, by decide, by decide, by decide, by decide, by decide, by decide, by decide,
    by decide, by decide⟩

theorem witness_WellFormedMeansNotRefused :
    (Instr.sres 0).isWire = false ∧ (running 0x13 0).AtStart ∧ (Instr.sres 16384).wellFormed (running 0x13 0).build = true ∧
    (Instr.sres 0).wellFormed (running 0x13 0).build = false ∧ Instr.burst.wellFormed (running 0x32 0).build = false :=
  ⟨rfl, ⟨rfl, rfl⟩, by decide, by decide, by decide⟩

end Sys2Proof.Tests
end

section
/-! PROOF. O53: every step keeps the build and the canonical form of the device registers. No move of an operation touches
what lies around it; only an exchange, or a reset that meets a frame in flight, reaches the device. -/

namespace Sys2Proof.Machine

-- Properties of every next state a move can answer.

/-- Every next state that `r` answers has `P`; a fault or a refusal answers none. -/
def Result.Ensures (r : Result) (P : State → Prop) : Prop := ∀ t, r = .next t → P t

@[simp] theorem Result.ensures_next {P : State → Prop} {t : State} : Result.Ensures (.next t) P ↔ P t :=
  ⟨fun h => h t rfl, fun h _ ht => Host.Outcome.next.inj ht ▸ h⟩

@[simp] theorem Result.ensures_fault {P : State → Prop} {f : Fault} : Result.Ensures (.fault f) P :=
  fun _ h => nomatch h

theorem Result.ensures_ite {P : State → Prop} {c : Prop} [Decidable c] {r r' : Result} (h : r.Ensures P)
    (h' : r'.Ensures P) : Result.Ensures (if c then r else r') P := by
  split
  · exact h
  · exact h'

/-- A property of every next state of an operation's line: it holds at the end with TransportError, and the start, every
continuation and the move after the last exchange ensure it. -/
theorem State.sequence_ensures {P : State → Prop} {s : State} {start resume : Result} {rest : List (Byte → Result)}
    (hfail : ∀ info, P (s.over (.err (.transport info)) Work.cleared)) (hstart : start.Ensures P)
    (hrest : ∀ cont ∈ rest, ∀ b, (cont b).Ensures P) (hresume : resume.Ensures P) :
    (s.sequence start rest resume).Ensures P := by
  intro t h
  rcases State.sequence_next h with ⟨info, -, rfl⟩ | ⟨n, b, cont, -, -, hc, ht⟩ | ⟨-, ht⟩ | ⟨-, -, ht⟩
  · exact hfail info
  · exact hrest cont (List.mem_of_getElem? hc) b t ht
  · exact hstart t ht
  · exact hresume t ht

/-- A property of every next state of a checked start: it holds at the end with InvalidArgument and after the start. -/
theorem State.guardArg_ensures {P : State → Prop} {s : State} {ok : Bool} {k : Result}
    (hrefused : P (s.over (.err .invalidArgument) Work.cleared)) (hk : k.Ensures P) : (s.guardArg ok k).Ensures P := by
  intro t h
  rcases State.guardArg_next h with ⟨-, ht⟩ | ⟨-, rfl⟩
  · exact hk t ht
  · exact hrefused

-- What lies around an operation.

/-- `t` has what `s` has in every field that no move of an operation changes (R7, R16, R45, R149): the build, the device, the
count of free bytes, the pins, their schedule, the request latch and STEP. -/
def State.SameAround (s t : State) : Prop :=
  t.build = s.build ∧ t.dev = s.dev ∧ t.draws = s.draws ∧ t.pins = s.pins ∧ t.env = s.env ∧
  t.reqOp = s.reqOp ∧ t.reqArg = s.reqArg ∧ t.stepCount = s.stepCount

section
variable (s : State)

/-- The start, the continuations and the last move decide whether a line of exchanges keeps what lies around it. -/
theorem State.sequence_sameAround {start resume : Result} {rest : List (Byte → Result)}
    (hstart : start.Ensures s.SameAround) (hrest : ∀ cont ∈ rest, ∀ b, (cont b).Ensures s.SameAround)
    (hresume : resume.Ensures s.SameAround) : (s.sequence start rest resume).Ensures s.SameAround :=
  State.sequence_ensures (by simp [State.SameAround]) hstart hrest hresume

theorem State.guardArg_sameAround {ok : Bool} {k : Result} (hk : k.Ensures s.SameAround) :
    (s.guardArg ok k).Ensures s.SameAround :=
  State.guardArg_ensures (by simp [State.SameAround]) hk

theorem State.readOne_sameAround (addr : Addr) (value : Byte → Word) :
    (s.readOne addr value).Ensures s.SameAround :=
  s.sequence_sameAround (by simp [State.SameAround]) (by simp [State.SameAround]) Result.ensures_fault

theorem State.readPair_sameAround (addrH addrL : Addr) (value : Byte → Byte → Word) :
    (s.readPair addrH addrL value).Ensures s.SameAround :=
  s.sequence_sameAround (by simp [State.SameAround]) (by simp [State.SameAround]) Result.ensures_fault

theorem State.writeOne_sameAround (ok : Bool) (addr : Addr) (v : Byte) :
    (s.writeOne ok addr v).Ensures s.SameAround :=
  s.sequence_sameAround (s.guardArg_sameAround (by simp [State.SameAround])) (by simp [State.SameAround])
    Result.ensures_fault

theorem State.readModifyWrite_sameAround (ok : Bool) (addr : Addr) (newByte : Byte → Byte) :
    (s.readModifyWrite ok addr newByte).Ensures s.SameAround :=
  s.sequence_sameAround (s.guardArg_sameAround (by simp [State.SameAround])) (by simp [State.SameAround])
    Result.ensures_fault

theorem State.writePair_sameAround (ok : Bool) (addrH addrL : Addr) (high : Byte) (low : Byte → Byte) :
    (s.writePair ok addrH addrL high low).Ensures s.SameAround := by
  unfold State.writePair
  split <;>
    exact s.sequence_sameAround (s.guardArg_sameAround (by simp [State.SameAround])) (by simp [State.SameAround])
      Result.ensures_fault

theorem execRdreg_sameAround (addr : Addr) : (execRdreg addr s).Ensures s.SameAround :=
  s.sequence_sameAround (s.guardArg_sameAround (by simp [State.SameAround])) (by simp [State.SameAround])
    Result.ensures_fault

theorem State.angleByte_sameAround (i : Nat) (b : Byte) (next : Addr) :
    (s.angleByte i b next).Ensures s.SameAround := by
  simp [State.angleByte, State.SameAround]

theorem State.angleCrc_sameAround (b : Byte) : (s.angleCrc b).Ensures s.SameAround := by
  simp [State.angleCrc, State.SameAround]

theorem State.angleVerdict_sameAround : s.angleVerdict.Ensures s.SameAround :=
  Result.ensures_ite (by simp [State.SameAround]) (by simp [State.SameAround])

theorem execRdangle_sameAround : (execRdangle s).Ensures s.SameAround :=
  s.sequence_sameAround (by simp [State.SameAround])
    (by simp [State.angleByte_sameAround, State.angleCrc_sameAround])
    (Result.ensures_ite s.angleVerdict_sameAround Result.ensures_fault)

theorem execGdir_sameAround : (execGdir s).Ensures s.SameAround := by
  refine s.sequence_sameAround (by simp [State.SameAround]) ?_ Result.ensures_fault
  simp only [List.forall_mem_singleton]
  intro b
  refine Result.ensures_ite ?_ (Result.ensures_ite ?_ ?_) <;> simp [State.SameAround]

theorem execZero_sameAround : (execZero s).Ensures s.SameAround := by
  refine s.sequence_sameAround (by simp [State.SameAround]) ?_ Result.ensures_fault
  simp only [List.forall_mem_singleton]
  intro rx
  exact Result.ensures_ite (by simp [State.SameAround]) (by simp [State.SameAround])

theorem execProg_sameAround : (execProg s).Ensures s.SameAround := by
  refine s.sequence_sameAround (by simp [State.SameAround]) ?_
    (Result.ensures_ite (by simp [State.SameAround]) Result.ensures_fault)
  simp only [List.forall_mem_singleton]
  intro rx
  exact Result.ensures_ite (by simp [State.SameAround]) (by simp [State.SameAround])

theorem execBurst_sameAround : (execBurst s).Ensures s.SameAround := by
  simp [execBurst, State.SameAround]

/-- No move of an operation changes what lies around it. -/
theorem exec_sameAround {i : Instr} (hi : i.isWire = false) : Result.Ensures (exec i s) s.SameAround := by
  cases i with
  | wireRd | wireWr | wireZero | wireProg | wireBurst => cases hi
  | rdreg addr => exact execRdreg_sameAround s addr
  | rdangle => exact execRdangle_sameAround s
  | gdir => exact execGdir_sameAround s
  | zero => exact execZero_sameAround s
  | prog => exact execProg_sameAround s
  | burst => exact execBurst_sameAround s
  | guid | gabz | gswap | gzedge | gzwid | gzph => exact s.readOne_sameAround _ _
  | gres => exact s.readPair_sameAround _ _ _
  | gzpos => exact s.readPair_sameAround _ _ fun h l => (zposUnpack h l).setWidth 32
  | wrreg | suid => exact s.writeOne_sameAround _ _ _
  | rmw | sabz | sswap | szedge | szwid | szph | sdir => exact s.readModifyWrite_sameAround _ _ _
  | sres | szpos => exact s.writePair_sameAround _ _ _ _ _

-- The build and the form of the device registers.

/-- `t` has the build of `s`, and its device registers are in canonical form if those of `s` are. -/
def State.KeepsBuildAndForm (s t : State) : Prop := t.build = s.build ∧ (Memory.wf s.dev → Memory.wf t.dev)

theorem State.SameAround.keepsBuildAndForm {s t : State} (h : s.SameAround t) : s.KeepsBuildAndForm t := by
  obtain ⟨hbuild, hdev, -⟩ := h
  exact ⟨hbuild, fun hwf => hdev ▸ hwf⟩

theorem State.keepsBuildAndForm_refl : s.KeepsBuildAndForm s := ⟨rfl, id⟩

/-- The ideal device stores at addresses of the register space only. -/
theorem State.deviceStores_keepsBuildAndForm (cmd : Cmd) (addr : Addr) (tx : Byte) :
    s.KeepsBuildAndForm (s.deviceStores cmd addr tx) := by
  refine ⟨s.deviceStores_build cmd addr tx, fun hwf => ?_⟩
  rw [State.deviceStores_dev]
  split
  · next h => exact Memory.write_wf tx (addrOk_le h.2) hwf
  · exact hwf

theorem State.deviceActs_keepsBuildAndForm (cmd : Cmd) (addr : Addr) (tx : Byte) :
    s.KeepsBuildAndForm (s.deviceActs cmd addr tx) := by
  refine ⟨s.deviceActs_build cmd addr tx, fun hwf => ?_⟩
  rcases s.deviceActs_cases cmd addr tx with hdev | ⟨-, haddr, hdev⟩ | ⟨-, -, hdev⟩ <;> rw [hdev]
  · exact hwf
  · exact Memory.write_wf tx (addrOk_le haddr) hwf
  · exact Memory.wf_nil

theorem State.exchange_keepsBuildAndForm (cmd : Cmd) (addr : Addr) (tx : Byte) :
    s.KeepsBuildAndForm (s.exchange cmd addr tx) := by
  rcases s.exchange_cases cmd addr tx with ⟨-, heq⟩ | ⟨-, r, dev, draws, heq, hdev, -⟩ <;> rw [heq]
  · exact s.keepsBuildAndForm_refl
  · refine ⟨rfl, fun hwf => ?_⟩
    rcases hdev with rfl | ⟨-, haddr, rfl⟩ | ⟨-, -, -, rfl⟩
    · exact hwf
    · exact Memory.write_wf tx (addrOk_le haddr) hwf
    · exact Memory.wf_nil

/-- Every instruction keeps the build and the form: an operation because it touches neither, a wire command because it is an
exchange. -/
theorem exec_keepsBuildAndForm (i : Instr) : Result.Ensures (exec i s) s.KeepsBuildAndForm := by
  cases hi : i.isWire with
  | false => exact fun t h => (exec_sameAround s hi t h).keepsBuildAndForm
  | true =>
    cases i with
    | wireRd addr tx | wireWr addr tx | wireZero addr tx | wireProg addr tx | wireBurst addr tx =>
      exact Result.ensures_next.mpr (s.exchange_keepsBuildAndForm _ addr tx)
    | _ => cases hi

theorem State.abandonFrame_keepsBuildAndForm : s.KeepsBuildAndForm s.abandonFrame := by
  unfold State.abandonFrame
  split
  · split
    · exact s.deviceStores_keepsBuildAndForm _ _ _
    · exact s.deviceActs_keepsBuildAndForm _ _ _
    · exact s.keepsBuildAndForm_refl
  · exact s.keepsBuildAndForm_refl

theorem State.hostMoves_keepsBuildAndForm : s.KeepsBuildAndForm s.hostMoves := by
  unfold State.hostMoves; split <;> exact s.keepsBuildAndForm_refl

theorem State.settleMoves_keepsBuildAndForm : s.KeepsBuildAndForm s.settleMoves := by
  unfold State.settleMoves; split <;> exact s.keepsBuildAndForm_refl

theorem State.noFrameMoves_keepsBuildAndForm : s.KeepsBuildAndForm s.noFrameMoves := by
  unfold State.noFrameMoves; split <;> exact s.keepsBuildAndForm_refl

end

/-- Every step keeps the build and the form, whoever has the turn. -/
theorem step_keepsBuildAndForm {s t : State} (h : step s = .next t) : s.KeepsBuildAndForm t := by
  obtain ⟨u, rfl, hu⟩ := step_next h
  have hkeeps : s.KeepsBuildAndForm u := by
    rcases hu with ⟨-, rfl⟩ | ⟨-, rfl⟩ | ⟨i, -, hi⟩ | ⟨-, rfl⟩ | ⟨f, -, rfl⟩ | ⟨-, rfl⟩ | ⟨-, rfl⟩
    · exact s.abandonFrame_keepsBuildAndForm
    · exact s.hostMoves_keepsBuildAndForm
    · exact exec_keepsBuildAndForm s i u hi
    · exact s.keepsBuildAndForm_refl
    · exact s.exchange_keepsBuildAndForm _ _ _
    · exact s.noFrameMoves_keepsBuildAndForm
    · exact s.settleMoves_keepsBuildAndForm
  simpa [State.KeepsBuildAndForm] using hkeeps

/-- Settles O53: whoever moves, the device is reached only through an exchange or a frame met by a reset, and these store at
addresses of the register space only. -/
theorem stepKeepsBuildAndMemoryForm : Obligations.StepKeepsBuildAndMemoryForm :=
  fun _ _ h => step_keepsBuildAndForm h

end Sys2Proof.Machine
end

section
/-! PROOF. Who has the turn (spec/10_state.md rules R14, R25, R26, spec/70_reset_and_hazards.md rule R167), and what the step
of each turn is. -/

namespace Sys2Proof.Machine

section
variable {s : State} {i : Instr}

/-- BUSY and DONE in terms of SEQ (R25). -/
theorem State.busy_iff : s.busy = true ↔ s.seq = .run ∨ s.seq = .waitX ∨ s.seq = .settle := by
  unfold State.busy; cases s.seq <;> simp

theorem State.busy_eq_false_iff : s.busy = false ↔ s.seq = .idle ∨ s.seq = .done := by
  unfold State.busy; cases s.seq <;> simp

theorem State.doneFlag_iff : s.doneFlag = true ↔ s.seq = .done := by
  unfold State.doneFlag; cases s.seq <;> simp

theorem step_reset (hr : s.pins.reset = true) : step s = .next s.abandonFrame.resetRpc.advance := by
  simp [step, State.turn, hr]

theorem step_host (hr : s.pins.reset = false) (hb : s.busy = false) : step s = .next s.hostMoves.advance := by
  rcases State.busy_eq_false_iff.mp hb with hq | hq <;> simp [step, State.turn, hr, hq]

theorem step_run (hr : s.pins.reset = false) (hq : s.seq = .run) (hi : s.inHand = .ok i) :
    step s = Result.advanced (exec i s) := by
  rw [State.inHand] at hi
  simp [step, State.turn, hr, hq, hi]

theorem step_run_illegal {e : DecodeError} (hr : s.pins.reset = false) (hq : s.seq = .run) (hi : s.inHand = .error e) :
    step s = .next (s.over (.err .illegalOperation) Work.cleared).advance := by
  rw [State.inHand] at hi
  simp [step, State.turn, hr, hq, hi, State.raise, State.ended_eq_over]

theorem step_waitX {f : Frame} (hr : s.pins.reset = false) (hq : s.seq = .waitX) (hx : s.xout = some f)
    (hd : decodeFrame s.build f = .ok i) : step s = Result.advanced (exec i s) := by
  simp [step, State.turn, hr, hq, hx, hd]

theorem step_waitX_strange {f : Frame} {e : DecodeError} (hr : s.pins.reset = false) (hq : s.seq = .waitX)
    (hx : s.xout = some f) (hd : decodeFrame s.build f = .error e) :
    step s = .next (s.exchange (frameCmd f) (frameAddr f) (frameTx f)).advance := by
  simp [step, State.turn, hr, hq, hx, hd]

theorem step_waitX_noFrame (hr : s.pins.reset = false) (hq : s.seq = .waitX) (hx : s.xout = none) :
    step s = .next s.noFrameMoves.advance := by
  simp [step, State.turn, hr, hq, hx]

theorem step_settle (hr : s.pins.reset = false) (hq : s.seq = .settle) : step s = .next s.settleMoves.advance := by
  simp [step, State.turn, hr, hq]

end

-- The answer to an exchange.

section
variable {s : State} (cmd : Cmd) (addr : Addr) (tx : Byte)

/-- The environment's side of an exchange writes the device and the count of free bytes only. -/
theorem State.served_eq : s.served cmd addr tx =
    { s with dev := (s.served cmd addr tx).dev, draws := (s.served cmd addr tx).draws } := by
  unfold State.served State.deviceActs State.deviceStores State.idealDraw
  repeat' split
  all_goals rfl

/-- The state after an answer: the device, the count of free bytes and the command states as given, the answer in hand. -/
def State.answeredWith (s : State) (dev : Memory) (draws : Nat) (r : Reply) (z p : CmdState) : State :=
  { ({ s with dev := dev, draws := draws } : State).respond r with zeroState := z, progState := p }

theorem State.exchange_eq_answeredWith (hv : s.pins.xrspValid = true) : s.exchange cmd addr tx =
    s.answeredWith (s.served cmd addr tx).dev (s.served cmd addr tx).draws (s.answer cmd addr tx) s.zeroState
      s.progState := by
  rw [State.exchange, if_pos hv, s.served_eq]; rfl

/-- The payload of an answer fits its port (R7, R26). -/
theorem State.answer_fits {n : Nat} (h : s.answer cmd addr tx = .fail n) : n < 2 ^ s.build.terrW := by
  unfold State.answer at h
  split at h
  · unfold State.idealReply at h
    repeat' split at h
    all_goals cases h <;> exact Nat.two_pow_pos _
  · exact s.wireReply_fits h
  · exact s.wireReply_fits h

end

end Sys2Proof.Machine
end

section
/-! PROOF. O50, O51, O52: the reset state meets the invariant, and from a state that meets it a step answers a next state that
meets it. An operation's move ends it or sends the exchange its line lists next (R15, R43); the answer to a frame in flight
brings the operation to the next point of its line (R76). -/

namespace Sys2Proof.Machine

/-- `r` answers a next state, and it has `P`. -/
def Result.Reaches (r : Result) (P : State → Prop) : Prop := ∃ t, r = .next t ∧ P t

theorem Result.Reaches.next {P : State → Prop} {t : State} (h : P t) : Result.Reaches (.next t) P := ⟨t, rfl, h⟩

theorem Result.Reaches.ite {P : State → Prop} {c : Prop} [Decidable c] {r r' : Result} (h : r.Reaches P)
    (h' : r'.Reaches P) : Result.Reaches (if c then r else r') P := by
  split
  · exact h
  · exact h'

/-- The part of the invariant that speaks of RPC's own registers. -/
def State.Safe (s : State) : Prop := s.PayloadsFit ∧ s.SeqInv

/-- Operation `i` is in hand and no exchange is outstanding: SEQ = Run, or a move from there. -/
def State.Between (s : State) (i : Instr) : Prop :=
  s.rsp = .absent ∧ s.xout = none ∧ s.zeroState ≠ .sent ∧ s.progState ≠ .sent ∧ s.inHand = .ok i

/-- Operation `i` is in hand, at a point of its line. -/
structure State.InLine (s : State) (i : Instr) : Prop where
  between : s.Between i
  point   : s.RunPoint i
  fits    : s.PayloadsFit

section
variable {s : State} {i : Instr}

theorem State.Between.rsp_absent (h : s.Between i) : s.rsp = .absent := h.1

theorem State.Between.inHand (h : s.Between i) : s.inHand = .ok i := h.2.2.2.2

theorem State.runInv_iff (hi : s.inHand = .ok i) : s.RunInv ↔ s.Between i ∧ s.RunPoint i := by
  simp [State.RunInv, State.Between, hi, and_assoc]

theorem State.runPoint_none (hr : s.reply = none) : s.RunPoint i ↔
    s.stepCount = 0 ∨
    (i = .rdangle ∧ s.stepCount = 4 ∧ s.crc = crc8Angle s.build.crcSliceSource s.composite) ∨
    (i = .prog ∧ s.stepCount = 1 ∧ s.progState = .acknowledged) := by
  simp [State.RunPoint, hr]

theorem State.runPoint_ok {b : Byte} (hr : s.reply = some (.ok b)) : s.RunPoint i ↔
    1 ≤ s.stepCount.toNat ∧ s.stepCount.toNat ≤ (i.exchanges s.build).length ∧ s.WorkAgrees s.stepCount.toNat i ∧
    s.CmdJudged (.ok b) i := by
  simp [State.RunPoint, hr]

theorem State.runPoint_fail {n : Nat} (hr : s.reply = some (.fail n)) : s.RunPoint i ↔
    s.stepCount.toNat < (i.exchanges s.build).length ∧ s.CmdJudged (.fail n) i := by
  simp [State.RunPoint, hr]

/-- A point of an operation's line is safe. -/
theorem State.Between.run_safe (h : s.Between i) (hq : s.seq = .run) (hp : s.RunPoint i)
    (hfit : ∀ n, s.reply = some (.fail n) → n < 2 ^ s.build.terrW) : s.Safe := by
  refine ⟨⟨by simp [h.rsp_absent], hfit⟩, ?_⟩
  rw [State.SeqInv, hq]
  exact (State.runInv_iff h.inHand).mpr ⟨h, hp⟩

/-- The pins and their schedule are no part of the invariant. -/
theorem State.advance_inv : s.advance.Inv ↔ s.Inv := by rw [State.advance_eq]; exact Iff.rfl

-- What a move of an operation can lead to.

/-- The end of an operation is safe. -/
theorem State.Between.over_safe (h : s.Between i) {r : Rsp} (hr : r ≠ .absent)
    (hfit : ∀ n, r = .err (.transport n) → n < 2 ^ s.build.terrW) (w : Work) : (s.over r w).Safe := by
  obtain ⟨-, hx, hz, hp, -⟩ := h
  exact ⟨⟨hfit, by simp⟩, ⟨hx, rfl, hz, hp⟩, hr⟩

theorem State.Between.returnOk_safe (h : s.Between i) (v : Word) : (s.returnOk v).Safe :=
  h.over_safe (by simp) (by simp) Work.cleared

theorem State.Between.raise_safe (h : s.Between i) {e : OpError} (he : ∀ n, e ≠ .transport n) : (s.raise e).Safe :=
  h.over_safe (by simp) (fun n hn => absurd (Rsp.err.inj hn) (he n)) Work.cleared

/-- Starting the RD or WR exchange that the line lists next is safe, if the working registers are as that point wants
them. -/
theorem State.Between.sent_safe (h : s.Between i) {x : Xchg} {f : Frame}
    (hx : (i.exchanges s.build)[s.stepCount.toNat]? = some x) (hf : x.carriedBy s.build f)
    (hw : s.WorkAgrees (s.stepCount.toNat + 1) i) (hzero : x ≠ .zero) (hprog : x ≠ .prog) : (s.sent f).Safe := by
  obtain ⟨hrsp, -, hz, hp, hi⟩ := h
  exact ⟨⟨by simp [hrsp], by simp⟩, hrsp, rfl, i, x, f, hi, hx, rfl, hf, hw, iff_of_false hz hzero,
    iff_of_false hp hprog⟩

theorem State.Between.memRead_safe (h : s.Between i) {addr : Addr}
    (hx : (i.exchanges s.build)[s.stepCount.toNat]? = some (.rd addr)) (hw : s.WorkAgrees (s.stepCount.toNat + 1) i) :
    (s.memRead addr).Safe :=
  h.sent_safe hx rfl hw nofun nofun

theorem State.Between.memWrite_safe (h : s.Between i) {addr : Addr} (v : Byte)
    (hx : (i.exchanges s.build)[s.stepCount.toNat]? = some (.wr addr)) (hw : s.WorkAgrees (s.stepCount.toNat + 1) i) :
    (s.memWrite addr v).Safe :=
  h.sent_safe hx ⟨v, rfl⟩ hw nofun nofun

/-- A line of exchanges is safe if its start is, the continuation after each of its exchanges, and its move after the last. -/
theorem State.InLine.sequence_safe (h : s.InLine i) {start resume : Result} {rest : List (Byte → Result)}
    (hstart : s.stepCount.toNat = 0 → start.Reaches State.Safe)
    (hrest : ∀ k b, s.stepCount.toNat = k + 1 → k < (i.exchanges s.build).length → s.WorkAgrees (k + 1) i →
      s.CmdJudged (.ok b) i → ∃ cont, rest[k]? = some cont ∧ (cont b).Reaches State.Safe)
    (hresume : s.reply = none → s.stepCount ≠ 0 → resume.Reaches State.Safe) :
    (s.sequence start rest resume).Reaches State.Safe := by
  obtain ⟨hb, hp, hfit⟩ := h
  cases hr : s.reply with
  | none =>
    by_cases h0 : s.stepCount = 0
    · rw [State.sequence_atStart ⟨h0, hr⟩]; exact hstart (by simp [h0])
    · rw [State.sequence_resumed hr h0]; exact hresume hr h0
  | some r =>
    cases r with
    | fail n =>
      rw [State.sequence_failed hr]
      exact .next (hb.over_safe (by simp) (fun m hm => hfit.2 m (by simp_all)) _)
    | ok b =>
      obtain ⟨hpos, hle, hwork, hcmd⟩ := (State.runPoint_ok hr).mp hp
      obtain ⟨k, hk⟩ := Nat.exists_eq_add_of_le' hpos
      obtain ⟨cont, hc, hsafe⟩ := hrest k b hk (by omega) (by rwa [← hk]) hcmd
      rw [State.sequence_answered ⟨rfl, hr⟩ hk hc]
      exact hsafe

/-- A line that has no move in Run with no answer in hand after its start: any but RDANGLE and PROG. -/
theorem State.InLine.line_safe (h : s.InLine i) (ha : i ≠ .rdangle) (hp : i ≠ .prog) {start : Result}
    {rest : List (Byte → Result)} (hstart : s.stepCount.toNat = 0 → start.Reaches State.Safe)
    (hrest : ∀ k b, s.stepCount.toNat = k + 1 → k < (i.exchanges s.build).length → s.WorkAgrees (k + 1) i →
      ∃ cont, rest[k]? = some cont ∧ (cont b).Reaches State.Safe) :
    (s.sequence start rest).Reaches State.Safe := by
  refine h.sequence_safe hstart (fun k b hk hlt hw _ => hrest k b hk hlt hw) fun hr h0 => ?_
  exact absurd (by simpa [ha, hp] using (State.runPoint_none hr).mp h.point) h0

/-- A refused request ends at its start (R71, R153). -/
theorem State.InLine.refused_safe (h : s.InLine i) (ha : i ≠ .rdangle) (hp : i ≠ .prog)
    (hx : i.exchanges s.build = []) (k : Result) (rest : List (Byte → Result)) :
    (s.sequence (s.guardArg false k) rest).Reaches State.Safe :=
  h.line_safe ha hp (fun _ => .next (h.between.raise_safe nofun))
    fun n _ _ hlt => absurd hlt (by simp [hx])

-- The shapes of the operations.

/-- RDANGLE and PROG have a move of their own besides those that follow an exchange, and only the two-register setters and
RDANGLE leave something in the working registers that a later move reads. -/
def PlainLine (i : Instr) : Prop := i ≠ .rdangle ∧ i ≠ .prog ∧ ∀ (s : State) (n : Nat), s.WorkAgrees n i

theorem State.InLine.readOne_safe (h : s.InLine i) (hi : PlainLine i) {addr : Addr} (value : Byte → Word)
    (hx : i.exchanges s.build = [.rd addr]) : (s.readOne addr value).Reaches State.Safe := by
  obtain ⟨ha, hp, hw⟩ := hi
  refine h.line_safe ha hp (fun h0 => ?_) fun k b hk hlt _ => ?_
  · exact .next (h.between.memRead_safe (by simp [h0, hx]) (hw _ _))
  · match k with
    | 0 => exact ⟨_, rfl, .next (h.between.returnOk_safe _)⟩
    | k + 1 => simp [hx] at hlt

theorem State.InLine.readPair_safe (h : s.InLine i) (hi : PlainLine i) {addrH addrL : Addr} (value : Byte → Byte → Word)
    (hx : i.exchanges s.build = [.rd addrH, .rd addrL]) : (s.readPair addrH addrL value).Reaches State.Safe := by
  obtain ⟨ha, hp, hw⟩ := hi
  refine h.line_safe ha hp (fun h0 => ?_) fun k b hk hlt _ => ?_
  · exact .next (h.between.memRead_safe (by simp [h0, hx]) (hw _ _))
  · match k with
    | 0 =>
      have hb : ({ s with tmp := b } : State).Between i := h.between
      exact ⟨_, rfl, .next (hb.memRead_safe (by simp [hk, hx]) (hw _ _))⟩
    | 1 => exact ⟨_, rfl, .next (h.between.returnOk_safe _)⟩
    | k + 2 => simp [hx] at hlt

theorem State.InLine.writeOne_safe (h : s.InLine i) (hi : PlainLine i) {ok : Bool} {addr : Addr} (v : Byte)
    (hx : i.exchanges s.build = if ok then [.wr addr] else []) : (s.writeOne ok addr v).Reaches State.Safe := by
  obtain ⟨ha, hp, hw⟩ := hi
  cases ok with
  | false => exact h.refused_safe ha hp hx _ _
  | true =>
    refine h.line_safe ha hp (fun h0 => ?_) fun k b hk hlt _ => ?_
    · exact .next (h.between.memWrite_safe v (by simp [h0, hx]) (hw _ _))
    · match k with
      | 0 => exact ⟨_, rfl, .next (h.between.returnOk_safe _)⟩
      | k + 1 => simp [hx] at hlt

theorem State.InLine.readModifyWrite_safe (h : s.InLine i) (hi : PlainLine i) {ok : Bool} {addr : Addr}
    (newByte : Byte → Byte) (hx : i.exchanges s.build = if ok then [.rd addr, .wr addr] else []) :
    (s.readModifyWrite ok addr newByte).Reaches State.Safe := by
  obtain ⟨ha, hp, hw⟩ := hi
  cases ok with
  | false => exact h.refused_safe ha hp hx _ _
  | true =>
    refine h.line_safe ha hp (fun h0 => ?_) fun k b hk hlt _ => ?_
    · exact .next (h.between.memRead_safe (by simp [h0, hx]) (hw _ _))
    · match k with
      | 0 =>
        have hb : ({ s with tmp := b, wdl := newByte b } : State).Between i := h.between
        exact ⟨_, rfl, .next (hb.memWrite_safe _ (by simp [hk, hx]) (hw _ _))⟩
      | 1 => exact ⟨_, rfl, .next (h.between.returnOk_safe _)⟩
      | k + 2 => simp [hx] at hlt

/-- A two-register setter: under ReadFirst WDL holds the byte computed from the TMP that was read until it is written. -/
theorem State.InLine.writePair_safe (h : s.InLine i) (ha : i ≠ .rdangle) (hp : i ≠ .prog) {ok : Bool} {addrH addrL : Addr}
    (high : Byte) {low : Byte → Byte} (hx : i.exchanges s.build = if ok then pairExchanges s.build addrH addrL else [])
    (hw : ∀ (u : State) (n : Nat), u.build = s.build →
      (u.WorkAgrees n i ↔ (u.build.rmw2Order = .readFirst → 2 ≤ n → u.wdl = low u.tmp))) :
    (s.writePair ok addrH addrL high low).Reaches State.Safe := by
  cases ok with
  | false => unfold State.writePair; split <;> exact h.refused_safe ha hp hx _ _
  | true =>
    simp only [pairExchanges, if_true] at hx
    unfold State.writePair
    split
    next ho =>
      simp only [ho] at hx
      refine h.line_safe ha hp (fun h0 => ?_) fun k b hk hlt hwork => ?_
      · exact .next (h.between.memRead_safe (by simp [h0, hx]) ((hw _ _ rfl).mpr (by simp [h0])))
      · match k with
        | 0 =>
          have hb : ({ s with tmp := b, wdh := high, wdl := low b } : State).Between i := h.between
          exact ⟨_, rfl, .next
            (hb.memWrite_safe _ (by simp [hk, hx])
              ((hw { s with tmp := b, wdh := high, wdl := low b } _ rfl).mpr fun _ _ => rfl))⟩
        | 1 =>
          have hwdl := (hw s _ rfl).mp hwork ho (by decide)
          exact ⟨_, rfl, .next
            (h.between.memWrite_safe _ (by simp [hk, hx]) ((hw _ _ rfl).mpr fun _ _ => hwdl))⟩
        | 2 => exact ⟨_, rfl, .next (h.between.returnOk_safe _)⟩
        | k + 3 => simp [hx] at hlt
    next ho =>
      simp only [ho] at hx
      have hfree : ∀ (u : State) (n : Nat), u.build = s.build → u.WorkAgrees n i :=
        fun u n hu => (hw u n hu).mpr fun hf => absurd hf (by simp [hu, ho])
      refine h.line_safe ha hp (fun h0 => ?_) fun k b hk hlt _ => ?_
      · have hb : ({ s with wdh := high } : State).Between i := h.between
        exact .next (hb.memWrite_safe _ (by simp [h0, hx]) (hfree _ _ rfl))
      · match k with
        | 0 => exact ⟨_, rfl, .next (h.between.memRead_safe (by simp [hk, hx]) (hfree _ _ rfl))⟩
        | 1 =>
          have hb : ({ s with tmp := b, wdl := low b } : State).Between i := h.between
          exact ⟨_, rfl, .next (hb.memWrite_safe _ (by simp [hk, hx]) (hfree _ _ rfl))⟩
        | 2 => exact ⟨_, rfl, .next (h.between.returnOk_safe _)⟩
        | k + 3 => simp [hx] at hlt

/-- The low `n` bits of COMPOSITE are empty. -/
theorem and_lowMask_eq_zero_iff {c : Composite} {n : Nat} :
    c &&& BitVec.ofNat 24 (2 ^ n - 1) = 0 ↔ ∀ j < 24, j < n → c.getLsbD j = false := by
  have hbit : ∀ j < 24, (c &&& BitVec.ofNat 24 (2 ^ n - 1)).getLsbD j = (c.getLsbD j && decide (j < n)) := fun j hj => by
    rw [BitVec.getLsbD_and, BitVec.getLsbD_ofNat, Nat.testBit_two_pow_sub_one, decide_eq_true hj, Bool.true_and]
  constructor
  · intro h j hj hn
    simpa [h, hn] using (hbit j hj).symm
  · intro h
    refine BitVec.eq_of_getLsbD_eq fun j hj => ?_
    rw [hbit j hj, BitVec.ofNat_eq_ofNat, BitVec.getLsbD_zero]
    by_cases hn : j < n
    · simp [h j hj hn]
    · simp [hn]

/-- Byte `k` of an angle lies above the low `16 - 8 * k` bits of COMPOSITE (R90, R91). -/
theorem getLsbD_orByte_low (c : Composite) {k j : Nat} (b : Byte) (hj : j < 16 - 8 * k) :
    (orByte c k b).getLsbD j = c.getLsbD j := by
  simp [orByte, hj]

/-- The first byte of an angle leaves the low two bytes of COMPOSITE empty. -/
theorem orByte_zero_low (b : Byte) : orByte 0 0 b &&& 0x00FFFF = 0 := by
  refine (and_lowMask_eq_zero_iff (n := 16)).mpr fun j _ hj => ?_
  rw [getLsbD_orByte_low 0 b (by omega), BitVec.ofNat_eq_ofNat, BitVec.getLsbD_zero]

/-- The second byte of an angle leaves the low byte of COMPOSITE empty. -/
theorem orByte_one_low {c : Composite} (b : Byte) (hc : c &&& 0x00FFFF = 0) : orByte c 1 b &&& 0x0000FF = 0 := by
  refine (and_lowMask_eq_zero_iff (n := 8)).mpr fun j h24 hj => ?_
  rw [getLsbD_orByte_low c b (by omega)]
  exact (and_lowMask_eq_zero_iff (n := 16)).mp hc j h24 (by omega)

/-- The move after one of the first three bytes of an angle: the byte is ORed in and the next register is read. -/
theorem State.Between.angleByte_safe (h : s.Between .rdangle) {k : Nat} {b : Byte} {next : Addr}
    (hx : (Instr.exchanges s.build .rdangle)[s.stepCount.toNat]? = some (.rd next))
    (hw : ({ s with composite := orByte s.composite k b } : State).WorkAgrees (s.stepCount.toNat + 1) .rdangle) :
    (s.angleByte k b next).Reaches State.Safe := by
  have hb : ({ s with composite := orByte s.composite k b } : State).Between .rdangle := h
  exact .next (hb.memRead_safe hx hw)

/-- The move after the fourth byte of an angle: the validator's verdict is the next move. -/
theorem State.Between.angleCrc_safe (h : s.Between .rdangle) (hq : s.seq = .run) (b : Byte) (hk : s.stepCount = 4) :
    (s.angleCrc b).Reaches State.Safe := by
  have hb : ({ s with crcRx := b, crc := crc8Angle s.build.crcSliceSource s.composite, reply := none } : State).Between
    .rdangle := h
  exact .next
    (hb.run_safe hq ((State.runPoint_none rfl).mpr (.inr (.inl ⟨rfl, hk, rfl⟩))) (by simp))

theorem State.Between.angleVerdict_safe (h : s.Between .rdangle) : s.angleVerdict.Reaches State.Safe :=
  .ite (.next (h.returnOk_safe _)) (.next (h.raise_safe nofun))

theorem State.InLine.execRdangle_safe (h : s.InLine .rdangle) (hq : s.seq = .run) :
    (execRdangle s).Reaches State.Safe := by
  refine h.sequence_safe (fun h0 => ?_) (fun k b hk hlt hwork _ => ?_) fun hr h0 => ?_
  · have hb : ({ s with composite := 0 } : State).Between .rdangle := h.between
    exact .next (hb.memRead_safe (by simp [h0, Instr.exchanges]) (by simp [State.WorkAgrees, h0]))
  · obtain ⟨h1, h2, -⟩ := hwork
    match k with
    | 0 => exact ⟨_, rfl, h.between.angleByte_safe (by simp [hk, Instr.exchanges])
        (by simp only [State.WorkAgrees, hk, h1 rfl, orByte_zero_low]; simp)⟩
    | 1 => exact ⟨_, rfl, h.between.angleByte_safe (by simp [hk, Instr.exchanges])
        (by simp only [State.WorkAgrees, hk, orByte_one_low b (h2 rfl)]; simp)⟩
    | 2 => exact ⟨_, rfl, h.between.angleByte_safe (by simp [hk, Instr.exchanges]) (by simp [State.WorkAgrees, hk])⟩
    | 3 => exact ⟨_, rfl, h.between.angleCrc_safe hq b (BitVec.eq_of_toNat_eq hk)⟩
    | k + 4 => simp [Instr.exchanges] at hlt
  · rcases (State.runPoint_none hr).mp h.point with hp | ⟨-, h4, -⟩ | ⟨hp, -⟩
    · exact absurd hp h0
    · rw [if_pos h4]; exact h.between.angleVerdict_safe
    · cases hp

theorem State.InLine.execRdreg_safe {addr : Addr} (h : s.InLine (.rdreg addr)) :
    (execRdreg addr s).Reaches State.Safe := by
  cases hok : addrOk addr with
  | false =>
    rw [execRdreg, hok]
    exact h.refused_safe nofun nofun (by simpa [Instr.exchanges, addrOk] using hok) _ _
  | true =>
    have hx : Instr.exchanges s.build (.rdreg addr) = [.rd addr] := by simpa [Instr.exchanges, addrOk] using hok
    rw [execRdreg, hok]
    exact h.readOne_safe ⟨nofun, nofun, fun _ _ => trivial⟩ _ hx

theorem State.InLine.execGdir_safe (h : s.InLine .gdir) : (execGdir s).Reaches State.Safe := by
  refine h.line_safe nofun nofun (fun h0 => ?_) fun k b hk hlt _ => ?_
  · exact .next (h.between.memRead_safe (by simp [h0, Instr.exchanges]) trivial)
  · match k with
    | 0 => exact ⟨_, rfl, .ite (.next (h.between.returnOk_safe _))
        (.ite (.next (h.between.returnOk_safe _))
          (.next (h.between.raise_safe nofun)))⟩
    | k + 1 => simp [Instr.exchanges] at hlt

theorem State.InLine.execZero_safe (h : s.InLine .zero) : (execZero s).Reaches State.Safe := by
  refine h.line_safe nofun nofun (fun h0 => ?_) fun k b hk hlt _ => ?_
  · obtain ⟨hrsp, -, -, hp, hi⟩ := h.between
    exact .next ⟨⟨by simp [hrsp], by simp⟩, hrsp, rfl, .zero, .zero, _, hi,
      by simp [h0, Instr.exchanges], rfl, rfl, trivial, iff_of_true rfl rfl, iff_of_false hp nofun⟩
  · match k with
    | 0 => exact ⟨_, rfl, .ite (.next (h.between.returnOk_safe _))
        (.next (h.between.raise_safe nofun))⟩
    | k + 1 => simp [Instr.exchanges] at hlt

/-- PROG's wait for settle-elapsed is safe (R140, R141). -/
theorem State.Between.settle_safe (h : s.Between .prog) (h1 : s.stepCount = 1) (hp : s.progState = .acknowledged) :
    ({ s with seq := .settle, reply := none } : State).Safe := by
  obtain ⟨hrsp, hx, hz, -, hi⟩ := h
  exact ⟨⟨by simp [hrsp], by simp⟩, hrsp, hx, rfl, hi, h1, hz, hp⟩

theorem State.InLine.execProg_safe (h : s.InLine .prog) : (execProg s).Reaches State.Safe := by
  refine h.sequence_safe (fun h0 => ?_) (fun k b hk hlt _ hcmd => ?_) fun hr h0 => ?_
  · obtain ⟨hrsp, -, hz, -, hi⟩ := h.between
    exact .next ⟨⟨by simp [hrsp], by simp⟩, hrsp, rfl, .prog, .prog, _, hi,
      by simp [h0, Instr.exchanges], rfl, rfl, trivial, iff_of_false hz nofun, iff_of_true rfl rfl⟩
  · match k with
    | 0 =>
      refine ⟨_, rfl, ?_⟩
      split
      next hack =>
        have hp : s.progState = .acknowledged := by rw [hcmd.2 rfl, hack]; rfl
        exact .next (h.between.settle_safe (BitVec.eq_of_toNat_eq hk) hp)
      next => exact .next (h.between.raise_safe nofun)
    | k + 1 => simp [Instr.exchanges] at hlt
  · rcases (State.runPoint_none hr).mp h.point with hp | ⟨hp, -⟩ | ⟨-, h1, -⟩
    · exact absurd hp h0
    · cases hp
    · rw [if_pos h1]; exact .next (h.between.returnOk_safe 0)

/-- A move of the operation in hand answers a next state, and it is safe. -/
theorem State.InLine.exec_safe (h : s.InLine i) (hq : s.seq = .run) : Result.Reaches (exec i s) State.Safe := by
  cases i with
  | wireRd | wireWr | wireZero | wireProg | wireBurst => exact absurd (decodeOp_isWire h.between.inHand) nofun
  | rdreg addr => exact h.execRdreg_safe
  | rdangle => exact h.execRdangle_safe hq
  | gdir => exact h.execGdir_safe
  | zero => exact h.execZero_safe
  | prog => exact h.execProg_safe
  | burst => exact .next (h.between.raise_safe nofun)
  | guid | gabz | gswap | gzedge | gzwid | gzph => exact h.readOne_safe ⟨nofun, nofun, fun _ _ => trivial⟩ _ rfl
  | gres => exact h.readPair_safe ⟨nofun, nofun, fun _ _ => trivial⟩ _ rfl
  | gzpos =>
    exact h.readPair_safe ⟨nofun, nofun, fun _ _ => trivial⟩ (fun hi lo => (zposUnpack hi lo).setWidth 32) rfl
  | wrreg | suid =>
    refine h.writeOne_safe ⟨nofun, nofun, fun _ _ => trivial⟩ _ ?_
    simp [Instr.exchanges, addrOk, userIdOk]
  | rmw | sabz | sswap | szedge | szwid | szph | sdir =>
    refine h.readModifyWrite_safe ⟨nofun, nofun, fun _ _ => trivial⟩ _ ?_
    simp [Instr.exchanges, addrOk, bitOk, widthOk, phaseOk]
  | sres v =>
    refine h.writePair_safe nofun nofun _ ?_ fun _ _ _ => Iff.rfl
    simp [Instr.exchanges, pprOk]
  | szpos d =>
    refine h.writePair_safe nofun nofun _ ?_ fun u _ hu => by rw [State.WorkAgrees, hu]
    simp [Instr.exchanges, degOk, degScale]

-- What the answer to the frame in flight leads to.

/-- `r` answers the frame of the table's entry `x`: it is in hand, and it moves the command state of a ZERO or PROG frame. -/
def State.answeredTo (s : State) (x : Xchg) (r : Reply) (dev : Memory) (draws : Nat) : State :=
  s.answeredWith dev draws r (if x = .zero then s.zeroState.answered r else s.zeroState)
    (if x = .prog then s.progState.answered r else s.progState)

/-- A frame of the table decodes to a wire command, which waits unchanged or takes an answer. -/
theorem Xchg.exec_carried {x : Xchg} {f : Frame} (hok : s.build.Ok) (hc : x.carriedBy s.build f) :
    ∃ j, decodeFrame s.build f = .ok j ∧ Result.Reaches (exec j s) fun u =>
      u = s ∨ ∃ r dev draws, u = s.answeredTo x r dev draws ∧ ∀ n, r = .fail n → n < 2 ^ s.build.terrW := by
  have hd := Xchg.decode_carried hok.1 hc
  cases hv : s.pins.xrspValid with
  | false =>
    cases x with
    | rd addr => exact ⟨_, hd, _, rfl, .inl (s.exchange_waits hv _ _ _)⟩
    | wr addr => obtain ⟨b, hd⟩ := hd; exact ⟨_, hd, _, rfl, .inl (s.exchange_waits hv _ _ _)⟩
    | zero | prog => exact ⟨_, hd, _, rfl, .inl (by simp [s.exchange_waits hv, hv])⟩
  | true =>
    have hex := fun cmd addr tx => s.exchange_eq_answeredWith cmd addr tx hv
    cases x with
    | rd addr => exact ⟨_, hd, _, rfl, .inr ⟨_, _, _, hex _ addr 0, fun _ => s.answer_fits _ _ _⟩⟩
    | wr addr =>
      obtain ⟨b, hd⟩ := hd
      exact ⟨_, hd, _, rfl, .inr ⟨_, _, _, hex _ addr b, fun _ => s.answer_fits _ _ _⟩⟩
    | zero =>
      exact ⟨_, hd, _, rfl, .inr ⟨_, _, _, by rw [hex, if_pos hv]; rfl, fun _ => s.answer_fits s.build.opcZero _ _⟩⟩
    | prog =>
      exact ⟨_, hd, _, rfl, .inr ⟨_, _, _, by rw [hex, if_pos hv]; rfl, fun _ => s.answer_fits s.build.opcProg _ _⟩⟩

/-- An answered command has its state judged: only ZERO has the frame of entry `.zero`, and it was Sent. -/
theorem CmdState.answered_judged {c : CmdState} {x y : Xchg} (hs : c = .sent ↔ x = y) (r : Reply) (hx : x = y) :
    (if x = y then c.answered r else c) = if r = .ok 0x55 then .acknowledged else .failed := by
  rw [if_pos hx, hs.mpr hx, CmdState.answered_sent]

/-- After its answer no command state is Sent. -/
theorem CmdState.answered_unsent {c : CmdState} {x y : Xchg} (hs : c = .sent ↔ x = y) (r : Reply) :
    (if x = y then c.answered r else c) ≠ .sent := by
  split
  · exact c.answered_ne_sent r
  · next hne => exact fun hc => hne (hs.mp hc)

/-- The answer to the frame in flight brings the operation to the next point of its line. -/
theorem State.answeredTo_safe {x : Xchg} {r : Reply} (hrsp : s.rsp = .absent) (hi : s.inHand = .ok i)
    (hx : (i.exchanges s.build)[s.stepCount.toNat]? = some x) (hw : s.WorkAgrees (s.stepCount.toNat + 1) i)
    (hz : s.zeroState = .sent ↔ x = .zero) (hp : s.progState = .sent ↔ x = .prog)
    (hfit : ∀ n, r = .fail n → n < 2 ^ s.build.terrW) (dev : Memory) (draws : Nat) :
    (s.answeredTo x r dev draws).Safe := by
  have hb : (s.answeredTo x r dev draws).Between i :=
    ⟨hrsp, rfl, CmdState.answered_unsent hz r, CmdState.answered_unsent hp r, hi⟩
  have hmem : x ∈ i.exchanges s.build := List.mem_of_getElem? hx
  have hcmd : (s.answeredTo x r dev draws).CmdJudged r i := by
    refine ⟨fun hi => CmdState.answered_judged hz r ?_, fun hi => CmdState.answered_judged hp r ?_⟩
    all_goals subst hi; exact List.mem_singleton.mp hmem
  have hlt : s.stepCount.toNat < (i.exchanges s.build).length := (List.getElem?_eq_some_iff.mp hx).1
  refine hb.run_safe rfl ?_ fun n hn => hfit n (Option.some.inj hn)
  cases r with
  | fail n => exact (State.runPoint_fail rfl).mpr ⟨hlt, hcmd⟩
  | ok b =>
    have hcount : (s.stepCount + 1).toNat = s.stepCount.toNat + 1 := by
      have hle := Instr.exchanges_length_le_four s.build i
      rw [BitVec.toNat_add]
      exact Nat.mod_eq_of_lt (by simp; omega)
    refine (State.runPoint_ok (b := b) rfl).mpr ⟨?_, ?_, ?_, hcmd⟩
    · exact hcount ▸ Nat.le_add_left 1 _
    · exact hcount ▸ hlt
    · exact hcount ▸ hw

/-- A step in SEQ = WaitX waits or takes the answer to the frame in flight. -/
theorem State.WaitInv.step_safe (h : s.WaitInv) (hok : s.build.Ok) (hsafe : s.Safe) (hr : s.pins.reset = false)
    (hq : s.seq = .waitX) : ∃ u : State, step s = .next u.advance ∧ u.Safe := by
  obtain ⟨hrsp, -, i, x, f, hi, hx, hf, hc, hw, hz, hp⟩ := h
  obtain ⟨j, hd, u, hj, hu⟩ := Xchg.exec_carried hok hc
  refine ⟨u, by rw [step_waitX hr hq hf hd, hj]; rfl, ?_⟩
  rcases hu with rfl | ⟨r, dev, draws, rfl, hfit⟩
  · exact hsafe
  · exact State.answeredTo_safe hrsp hi hx hw hz hp hfit dev draws

-- The other turns.

theorem State.resetRpc_safe : s.resetRpc.Safe := ⟨⟨by simp, by simp⟩, ⟨rfl, rfl, nofun, nofun⟩, rfl, rfl, rfl, rfl⟩

/-- An accepted request is at the start of its line. -/
theorem State.RestInv.accept_safe (h : s.RestInv) (w : ReqWord) : (s.accept w).Safe := by
  obtain ⟨hx, -, hz, hp⟩ := h
  refine ⟨⟨by simp, by simp⟩, rfl, hx, hz, hp, ?_⟩
  split
  · exact (State.runPoint_none rfl).mpr (.inl rfl)
  · exact ⟨rfl, rfl⟩

theorem State.RestInv.hostMoves_safe (h : s.RestInv) (hsafe : s.Safe) : s.hostMoves.Safe := by
  unfold State.hostMoves
  split
  · exact h.accept_safe s.pins.req
  · exact hsafe

/-- PROG's wait ends where its line has one move left (R140, R141). -/
theorem State.SettleInv.settleMoves_safe (h : s.SettleInv) (hsafe : s.Safe) : s.settleMoves.Safe := by
  obtain ⟨hrsp, hx, hreply, hi, h1, hz, hp⟩ := h
  unfold State.settleMoves
  split
  · have hb : ({ s with seq := .run } : State).Between .prog :=
      ⟨hrsp, hx, hz, fun hs => CmdState.noConfusion (hp.symm.trans hs), hi⟩
    exact hb.run_safe rfl ((State.runPoint_none hreply).mpr (.inr (.inr ⟨rfl, h1, hp⟩))) (by simp [hreply])
  · exact hsafe

/-- A step in SEQ = Run is a move of the operation in hand, or ends an op code outside the table. -/
theorem State.RunInv.step_safe (h : s.RunInv) (hsafe : s.Safe) (hr : s.pins.reset = false) (hq : s.seq = .run) :
    ∃ u : State, step s = .next u.advance ∧ u.Safe := by
  cases hi : s.inHand with
  | ok i =>
    obtain ⟨hb, hp⟩ := (State.runInv_iff hi).mp h
    obtain ⟨u, hu, hus⟩ := State.InLine.exec_safe ⟨hb, hp, hsafe.1⟩ hq
    exact ⟨u, by rw [step_run hr hq hi, hu]; rfl, hus⟩
  | error e =>
    obtain ⟨-, hx, hz, hp, -⟩ := h
    exact ⟨_, step_run_illegal hr hq hi, ⟨by simp, by simp⟩, ⟨hx, rfl, hz, hp⟩, nofun⟩

/-- From a state that meets the invariant a step answers a next state that meets its part about RPC's own registers. -/
theorem State.Inv.step_safe (h : s.Inv) : ∃ u : State, step s = .next u.advance ∧ u.Safe := by
  obtain ⟨hok, -, hsafe⟩ := h
  have hseq := hsafe.2
  cases hr : s.pins.reset with
  | true => exact ⟨_, step_reset hr, State.resetRpc_safe⟩
  | false =>
    cases hq : s.seq <;> simp only [State.SeqInv, hq] at hseq
    case idle => exact ⟨_, step_host hr (State.busy_eq_false_iff.mpr (.inl hq)), hseq.1.hostMoves_safe hsafe⟩
    case done => exact ⟨_, step_host hr (State.busy_eq_false_iff.mpr (.inr hq)), hseq.1.hostMoves_safe hsafe⟩
    case run => exact hseq.step_safe hsafe hr hq
    case waitX => exact hseq.step_safe hok hsafe hr hq
    case settle => exact ⟨_, step_settle hr hq, hseq.settleMoves_safe hsafe⟩

end

/-- Settles O51: RPC's own registers stay safe, and the build and the form of the device registers are kept by every step. -/
theorem stepKeepsTheInvariant : Obligations.StepKeepsTheInvariant := by
  intro s t h hst
  obtain ⟨u, hu, hsafe⟩ := h.step_safe
  obtain ⟨hok, hwf, -⟩ := h
  obtain rfl : u.advance = t := Host.Outcome.next.inj (hu.symm.trans hst)
  obtain ⟨hbuild, hform⟩ := step_keepsBuildAndForm hu
  rw [State.advance_build, State.advance_dev] at *
  exact State.advance_inv.mpr ⟨hbuild ▸ hok, hform hwf, hsafe⟩

/-- Settles O52: a step from the invariant answers, whoever has the turn. -/
theorem noStepFromTheInvariantStops : Obligations.NoStepFromTheInvariantStops := by
  intro s h
  obtain ⟨u, hu, -⟩ := h.step_safe
  exact ⟨_, hu⟩

/-- Settles O50: at reset nothing is in hand, no command is Sent and no device register is known. -/
theorem resetMeetsTheInvariant : Obligations.ResetMeetsTheInvariant :=
  ⟨⟨by decide, by decide, by simp [State.reset, Config.registers, Config.default, Config.addrMax], by decide, by decide,
      by decide⟩,
    Memory.wf_nil, ⟨by simp [State.reset], by simp [State.reset]⟩,
    ⟨rfl, rfl, nofun, nofun⟩, rfl, rfl, rfl, rfl⟩

end Sys2Proof.Machine
end

section
/-! PROOF. O3, O6, O7, O13: what a request, a move of the operation in hand and the frame in flight do in one step (R15, R16,
R23, R25, R26), and what the wires answer (R26, R152). -/

namespace Sys2Proof.Machine

section
variable (s : State)

theorem Result.advanced_next_eq : Result.advanced (.next s) =
    .next { s with pins := s.env.head?.getD {}, env := s.env.tail } := by
  rw [Result.advanced, State.advance_eq]

/-- An exchange answered on the wires: the answer is taken as the wires say it, and the device is as the frame left it if the
device acted on it. -/
theorem State.exchange_onWires (hv : s.pins.xrspValid = true) (hd : s.pins.device ≠ .ideal) (cmd : Cmd) (addr : Addr)
    (tx : Byte) : s.exchange cmd addr tx =
      { s.answeredBy s.onWires with
        dev := if s.pins.device = .acts then (s.deviceActs cmd addr tx).dev else s.dev } := by
  rw [State.exchange, if_pos hv, State.respond_eq_answeredBy]
  cases hm : s.pins.device with
  | ideal => exact absurd hm hd
  | ignores => simp [State.served, State.answer, hm, State.wireReply_eq_onWires, State.answeredBy]
  | acts =>
    simp only [State.served, State.answer, hm, State.wireReply_eq_onWires, State.answeredBy, State.deviceActs_build,
      State.deviceActs_stepCount, State.deviceActs_draws, if_true]
    simp

end

/-- Settles O3: with BUSY = 0 the host has the turn, and only a valid request changes more than the pins. -/
theorem requestIsAcceptedWhenNotBusy : Obligations.RequestIsAcceptedWhenNotBusy := by
  refine ⟨fun s => ⟨State.busy_iff, State.doneFlag_iff⟩, fun s hr hb hv => ?_, fun s hr hb hv => ?_, rfl, rfl, rfl, rfl⟩
  · rw [step_host hr hb, State.hostMoves, if_pos hv, State.advance_eq]; rfl
  · rw [step_host hr hb, State.hostMoves, if_neg (by simp [hv]), State.advance_eq]

/-- Settles O6: SEQ = Run gives the operation in hand the turn. -/
theorem stepRunsTheOperationInHand : Obligations.StepRunsTheOperationInHand := by
  intro s i hr hq hi
  rw [step_run hr hq hi]
  cases exec i s with
  | next t => exact Result.advanced_next_eq t
  | fault r => rfl
  | refused r => rfl

/-- Settles O7: SEQ = WaitX gives the frame in flight the turn. -/
theorem stepRunsTheFrameInFlight : Obligations.StepRunsTheFrameInFlight := by
  intro s f i hr hq hx hd
  rw [step_waitX hr hq hx hd]
  cases exec i s with
  | next t => exact Result.advanced_next_eq t
  | fault r => rfl
  | refused r => rfl

/-- Settles O13: each of the three is an exchange, and what the device does with its frame follows its command code. -/
theorem exchangeAnsweredOnTheWires : Obligations.ExchangeAnsweredOnTheWires := by
  intro s a b hok hv hd
  have hcodes := hok.1
  simp only [Config.opcs, List.nodup_cons, List.mem_cons, List.not_mem_nil, or_false, not_or] at hcodes
  obtain ⟨⟨hwr, -, -, hrb⟩, ⟨-, -, hwb⟩, -⟩ := hcodes
  have haddr : addrOk a = true ↔ a ≤ 0x1FF := addrOk_iff a
  refine ⟨congrArg Host.Outcome.next (?_ : s.exchange s.build.opcRd a b = _),
    congrArg Host.Outcome.next (?_ : s.exchange s.build.opcWr a b = _),
    congrArg Host.Outcome.next (?_ : s.exchange s.build.opcBurst a b = _)⟩
  all_goals rw [s.exchange_onWires hv hd, State.deviceActs_dev]
  · simp [State.answeredBy]
  · simp only [if_neg (Ne.symm hwr), if_true, haddr, ite_and]
  · simp [Ne.symm hrb, Ne.symm hwb]

end Sys2Proof.Machine
end

section
/-! PROOF. O35: what a move of an operation leaves unchanged. What lies around the operation is kept by every move
(`exec_sameAround`); of its own registers a move that goes on writes those its shape names. -/

namespace Sys2Proof.Machine

/-- The working registers of R17 to R19 that operation `i` has no use for are in `t` as in `s`. -/
def State.WorkKept (i : Instr) (s t : State) : Prop :=
  (i ≠ .rdangle → t.composite = s.composite ∧ t.crcRx = s.crcRx ∧ t.crc = s.crc) ∧
  ((∀ v, i ≠ .sres v) → (∀ v, i ≠ .szpos v) → t.wdh = s.wdh) ∧
  ((i = .rdangle ∨ i = .zero ∨ i = .prog ∨ i = .guid ∨ i = .gabz ∨ i = .gswap ∨ i = .gzedge ∨ i = .gzwid ∨
      i = .gzph ∨ i = .gdir ∨ (∃ a, i = .rdreg a) ∨ (∃ a d, i = .wrreg a d) ∨ (∃ v, i = .suid v)) →
    t.tmp = s.tmp ∧ t.wdl = s.wdl) ∧
  ((i = .gres ∨ i = .gzpos) → t.wdl = s.wdl)

/-- What a move of operation `i` does to RPC's own registers: only ZERO and PROG move their command states, and the operation
has ended with a response, or it goes on. -/
def State.Moves (i : Instr) (s t : State) : Prop :=
  (i ≠ .zero → t.zeroState = s.zeroState) ∧ (i ≠ .prog → t.progState = s.progState) ∧
  ((t.seq = .done ∧ t.rsp ≠ .absent ∧ t.xout = s.xout) ∨
    (t.rsp = s.rsp ∧ (t.seq = .waitX ∨ t.xout = s.xout) ∧ State.WorkKept i s t))

section
variable (s : State) (i : Instr)

theorem State.workKept_refl : State.WorkKept i s s := by simp [State.WorkKept]

variable {s i}

theorem State.moves_over {r : Rsp} (hr : r ≠ .absent) (w : Work) : State.Moves i s (s.over r w) :=
  ⟨fun _ => rfl, fun _ => rfl, .inl ⟨rfl, hr, rfl⟩⟩

theorem State.moves_returnOk (v : Word) : State.Moves i s (s.returnOk v) := State.moves_over (by simp) Work.cleared

theorem State.moves_raise (e : OpError) : State.Moves i s (s.raise e) := State.moves_over (by simp) Work.cleared

/-- An exchange started from `u`, which is `s` but for working registers the operation uses. -/
theorem State.moves_issue {u : State} (hw : State.WorkKept i s u) (hz : u.zeroState = s.zeroState)
    (hp : u.progState = s.progState) (hr : u.rsp = s.rsp) (cmd : Cmd) (addr : Addr) (tx : Byte) :
    State.Moves i s (u.issue cmd addr tx) :=
  ⟨fun _ => hz, fun _ => hp, .inr ⟨hr, .inl rfl, hw⟩⟩

theorem State.sequence_moves {start resume : Result} {rest : List (Byte → Result)}
    (hstart : start.Ensures (State.Moves i s)) (hrest : ∀ cont ∈ rest, ∀ b, (cont b).Ensures (State.Moves i s))
    (hresume : resume.Ensures (State.Moves i s)) : (s.sequence start rest resume).Ensures (State.Moves i s) :=
  State.sequence_ensures (fun _ => State.moves_over (by simp) _) hstart hrest hresume

theorem State.guardArg_moves {ok : Bool} {k : Result} (hk : k.Ensures (State.Moves i s)) :
    (s.guardArg ok k).Ensures (State.Moves i s) :=
  State.guardArg_ensures (State.moves_over (by simp) _) hk

theorem State.memRead_moves (addr : Addr) : State.Moves i s (s.memRead addr) :=
  State.moves_issue (s.workKept_refl i) rfl rfl rfl _ _ _

theorem State.memWrite_moves (addr : Addr) (v : Byte) : State.Moves i s (s.memWrite addr v) :=
  State.moves_issue (s.workKept_refl i) rfl rfl rfl _ _ _

theorem State.readOne_moves (addr : Addr) (value : Byte → Word) :
    (s.readOne addr value).Ensures (State.Moves i s) :=
  State.sequence_moves (Result.ensures_next.mpr (State.memRead_moves addr)) (by simp [State.moves_returnOk])
    Result.ensures_fault

theorem State.readPair_moves (hw : ∀ b, State.WorkKept i s { s with tmp := b }) (addrH addrL : Addr)
    (value : Byte → Byte → Word) : (s.readPair addrH addrL value).Ensures (State.Moves i s) := by
  refine State.sequence_moves (Result.ensures_next.mpr (State.memRead_moves addrH)) ?_ Result.ensures_fault
  simp only [List.forall_mem_cons, Result.ensures_next]
  exact ⟨fun b => State.moves_issue (hw b) rfl rfl rfl _ _ _, fun _ => State.moves_returnOk _, nofun⟩

theorem State.writeOne_moves (ok : Bool) (addr : Addr) (v : Byte) : (s.writeOne ok addr v).Ensures (State.Moves i s) :=
  State.sequence_moves (State.guardArg_moves (Result.ensures_next.mpr (State.memWrite_moves addr v)))
    (by simp [State.moves_returnOk]) Result.ensures_fault

theorem State.readModifyWrite_moves (hw : ∀ b c, State.WorkKept i s { s with tmp := b, wdl := c }) (ok : Bool)
    (addr : Addr) (newByte : Byte → Byte) : (s.readModifyWrite ok addr newByte).Ensures (State.Moves i s) := by
  refine State.sequence_moves (State.guardArg_moves (Result.ensures_next.mpr (State.memRead_moves addr))) ?_
    Result.ensures_fault
  simp only [List.forall_mem_cons, Result.ensures_next]
  exact ⟨fun b => State.moves_issue (hw b _) rfl rfl rfl _ _ _, fun _ => State.moves_returnOk _, nofun⟩

theorem State.writePair_moves (hw : ∀ b c d, State.WorkKept i s { s with tmp := b, wdh := c, wdl := d }) (ok : Bool)
    (addrH addrL : Addr) (high : Byte) (low : Byte → Byte) :
    (s.writePair ok addrH addrL high low).Ensures (State.Moves i s) := by
  unfold State.writePair
  split
  · refine State.sequence_moves (State.guardArg_moves (Result.ensures_next.mpr (State.memRead_moves addrL))) ?_
      Result.ensures_fault
    simp only [List.forall_mem_cons, Result.ensures_next]
    exact ⟨fun b => State.moves_issue (hw b high _) rfl rfl rfl _ _ _, fun _ => State.memWrite_moves _ _,
      fun _ => State.moves_returnOk _, nofun⟩
  · refine State.sequence_moves
      (State.guardArg_moves (Result.ensures_next.mpr (State.moves_issue (hw s.tmp high s.wdl) rfl rfl rfl _ _ _))) ?_
      Result.ensures_fault
    simp only [List.forall_mem_cons, Result.ensures_next]
    exact ⟨fun _ => State.memRead_moves _, fun b => State.moves_issue (hw b s.wdh _) rfl rfl rfl _ _ _,
      fun _ => State.moves_returnOk _, nofun⟩

theorem execRdangle_moves : (execRdangle s).Ensures (State.Moves .rdangle s) := by
  have hcomposite : ∀ c, State.WorkKept .rdangle s { s with composite := c } := by simp [State.WorkKept]
  have hbyte : ∀ k b next, (s.angleByte k b next).Ensures (State.Moves .rdangle s) := fun k b next =>
    Result.ensures_next.mpr (State.moves_issue (hcomposite (orByte s.composite k b)) rfl rfl rfl _ _ _)
  have hcrc : ∀ b, (s.angleCrc b).Ensures (State.Moves .rdangle s) := fun b =>
    Result.ensures_next.mpr ⟨fun _ => rfl, fun _ => rfl, .inr ⟨rfl, .inr rfl, by simp [State.WorkKept]⟩⟩
  have hverdict : s.angleVerdict.Ensures (State.Moves .rdangle s) :=
    Result.ensures_ite (Result.ensures_next.mpr (State.moves_returnOk _)) (Result.ensures_next.mpr (State.moves_raise _))
  refine State.sequence_moves (Result.ensures_next.mpr (State.moves_issue (hcomposite 0) rfl rfl rfl _ _ _)) ?_
    (Result.ensures_ite hverdict Result.ensures_fault)
  simp [hbyte, hcrc]

theorem execGdir_moves : (execGdir s).Ensures (State.Moves .gdir s) := by
  refine State.sequence_moves (Result.ensures_next.mpr (State.memRead_moves _)) ?_ Result.ensures_fault
  simp only [List.forall_mem_singleton]
  intro b
  refine Result.ensures_ite ?_ (Result.ensures_ite ?_ ?_) <;> simp [State.moves_returnOk, State.moves_raise]

theorem execZero_moves : (execZero s).Ensures (State.Moves .zero s) := by
  refine State.sequence_moves (Result.ensures_next.mpr ?_) ?_ Result.ensures_fault
  · exact ⟨fun h => absurd rfl h, fun _ => rfl, .inr ⟨rfl, .inl rfl, s.workKept_refl _⟩⟩
  · simp only [List.forall_mem_singleton]
    exact fun rx => Result.ensures_ite (by simp [State.moves_returnOk]) (by simp [State.moves_raise])

theorem execProg_moves : (execProg s).Ensures (State.Moves .prog s) := by
  refine State.sequence_moves (Result.ensures_next.mpr ?_) ?_
    (Result.ensures_ite (by simp [State.moves_returnOk]) Result.ensures_fault)
  · exact ⟨fun _ => rfl, fun h => absurd rfl h, .inr ⟨rfl, .inl rfl, s.workKept_refl _⟩⟩
  · simp only [List.forall_mem_singleton]
    exact fun rx => Result.ensures_ite
      (Result.ensures_next.mpr ⟨fun _ => rfl, fun h => absurd rfl h, .inr ⟨rfl, .inr rfl, s.workKept_refl _⟩⟩)
      (by simp [State.moves_raise])

/-- What every move of an operation does to RPC's own registers. -/
theorem exec_moves (hi : i.isWire = false) : Result.Ensures (exec i s) (State.Moves i s) := by
  cases i with
  | wireRd | wireWr | wireZero | wireProg | wireBurst => cases hi
  | rdreg addr =>
    exact State.sequence_moves (State.guardArg_moves (Result.ensures_next.mpr (State.memRead_moves addr)))
      (by simp [State.moves_returnOk]) Result.ensures_fault
  | rdangle => exact execRdangle_moves
  | gdir => exact execGdir_moves
  | zero => exact execZero_moves
  | prog => exact execProg_moves
  | burst => exact Result.ensures_next.mpr (State.moves_raise _)
  | guid | gabz | gswap | gzedge | gzwid | gzph => exact State.readOne_moves _ _
  | gres => exact State.readPair_moves (by simp [State.WorkKept]) _ _ _
  | gzpos => exact State.readPair_moves (by simp [State.WorkKept]) _ _ fun h l => (zposUnpack h l).setWidth 32
  | wrreg | suid => exact State.writeOne_moves _ _ _
  | rmw | sabz | sswap | szedge | szwid | szph | sdir =>
    exact State.readModifyWrite_moves (by simp [State.WorkKept]) _ _ _
  | sres | szpos => exact State.writePair_moves (by simp [State.WorkKept]) _ _ _ _ _

end

/-- Settles O35: the move keeps what lies around the operation, and of RPC's own registers it writes those of its shape. -/
theorem operationFrame : Obligations.OperationFrame := by
  intro i s t hi ht
  obtain ⟨hbuild, hdev, hdraws, hpins, henv, hop, harg, hcount⟩ := exec_sameAround s hi t ht
  obtain ⟨hzero, hprog, hmove⟩ := exec_moves hi t ht
  exact ⟨hbuild, hdev, by simp [hdev], hdraws, hop, harg, hcount, hpins, henv, hzero, hprog, hmove⟩

end Sys2Proof.Machine
end

section
/-! PROOF. O4, O5: which pins a step depends on (R25, R26, R141, R158). An operation's move reads none; an exchange reads the
answer's pins only. -/

namespace Sys2Proof.Machine

/-- What `g` makes of the next state that `r` answers. -/
def Result.map (g : State → State) : Result → Result
  | .next t => .next (g t)
  | .fault r => .fault r
  | .refused r => .refused r

/-- The same state with the pins `p`. -/
def State.withPins (p : Pins) (s : State) : State := { s with pins := p }

/-- Only a wire command is in a frame. -/
theorem decodeFrame_isWire {c : Config} {f : Frame} {i : Instr} (h : decodeFrame c f = .ok i) : i.isWire = true := by
  unfold decodeFrame at h
  repeat' split at h
  all_goals cases h <;> rfl

-- An exchange and the state around it.

/-- The same answer pins (R26), and the same choice of what the device does. -/
structure Pins.SameAnswer (p q : Pins) : Prop where
  xrspValid : p.xrspValid = q.xrspValid
  xrspData  : p.xrspData = q.xrspData
  xrspFail  : p.xrspFail = q.xrspFail
  xrspInfo  : p.xrspInfo = q.xrspInfo
  device    : p.device = q.device

/-- `t` has what `s` has in everything an exchange reads: the build, the device and the answer's pins. -/
structure State.SameWire (s t : State) : Prop where
  build : t.build = s.build
  dev   : t.dev = s.dev
  draws : t.draws = s.draws
  pins  : t.pins.SameAnswer s.pins

section
variable {s t : State} (cmd : Cmd) (addr : Addr) (tx : Byte)

theorem State.SameWire.wireReply_eq (h : s.SameWire t) : t.wireReply = s.wireReply := by
  simp [State.wireReply, h.build, h.pins.xrspData, h.pins.xrspFail, h.pins.xrspInfo]

theorem State.SameWire.answer_eq (h : s.SameWire t) : t.answer cmd addr tx = s.answer cmd addr tx := by
  simp only [State.answer, State.idealReply, h.pins.device, h.wireReply_eq, h.build, h.dev, h.draws]

theorem State.SameWire.served_dev (h : s.SameWire t) : (t.served cmd addr tx).dev = (s.served cmd addr tx).dev := by
  unfold State.served
  rw [h.pins.device]
  split <;> simp [h.build, h.dev]

theorem State.SameWire.served_draws (h : s.SameWire t) : (t.served cmd addr tx).draws = (s.served cmd addr tx).draws := by
  unfold State.served
  rw [h.pins.device]
  split <;> simp [h.build, h.dev, h.draws]

end

/-- `g` leaves alone what an exchange reads of `s`, and commutes with what its answer writes. -/
def State.Bystander (g : State → State) (s : State) : Prop :=
  s.SameWire (g s) ∧ (g s).zeroState = s.zeroState ∧ (g s).progState = s.progState ∧
  ∀ dev draws r z p, g (s.answeredWith dev draws r z p) = (g s).answeredWith dev draws r z p

section
variable {g : State → State} {s : State}

/-- What `g` changes stands by during an exchange. -/
theorem State.Bystander.exchange_eq (h : s.Bystander g) (cmd : Cmd) (addr : Addr) (tx : Byte) :
    (g s).exchange cmd addr tx = g (s.exchange cmd addr tx) := by
  obtain ⟨hw, hz, hp, hg⟩ := h
  have hvalid : (g s).pins.xrspValid = s.pins.xrspValid := hw.pins.xrspValid
  cases hv : s.pins.xrspValid with
  | false => rw [State.exchange_waits hv, State.exchange_waits (hvalid.trans hv)]
  | true =>
    rw [State.exchange_eq_answeredWith _ _ _ hv, State.exchange_eq_answeredWith _ _ _ (hvalid.trans hv), hg,
      hw.served_dev, hw.served_draws, hw.answer_eq, hz, hp]

/-- What `g` changes stands by while a wire command runs. -/
theorem State.Bystander.exec_eq (h : s.Bystander g) {i : Instr} (hi : i.isWire = true) :
    exec i (g s) = Result.map g (exec i s) := by
  have hex := h.exchange_eq
  obtain ⟨hw, hz, hp, hg⟩ := h
  have hb : (g s).build = s.build := hw.build
  have hvalid : (g s).pins.xrspValid = s.pins.xrspValid := hw.pins.xrspValid
  cases i with
  | wireRd addr tx => exact congrArg Host.Outcome.next (by rw [hb]; exact hex s.build.opcRd addr tx)
  | wireWr addr tx => exact congrArg Host.Outcome.next (by rw [hb]; exact hex s.build.opcWr addr tx)
  | wireBurst addr tx => exact congrArg Host.Outcome.next (by rw [hb]; exact hex s.build.opcBurst addr tx)
  | wireZero addr tx | wireProg addr tx =>
    refine congrArg Host.Outcome.next ?_
    cases hv : s.pins.xrspValid with
    | false => simp [State.exchange_waits hv, State.exchange_waits (hvalid.trans hv), hvalid, hv]
    | true =>
      simp only [State.exchange_eq_answeredWith _ _ _ hv, State.exchange_eq_answeredWith _ _ _ (hvalid.trans hv), hvalid,
        hv, if_true, hb, hw.served_dev, hw.served_draws, hw.answer_eq, hz, hp]
      exact (hg _ _ _ _ _).symm
  | _ => cases hi

/-- What `g` changes stands by while an answer is taken with XOUT empty. -/
theorem State.Bystander.noFrameMoves_eq (h : s.Bystander g) : (g s).noFrameMoves = g s.noFrameMoves := by
  obtain ⟨hw, hz, hp, hg⟩ := h
  have hr : (g s).noFrameReply = s.noFrameReply := by simp only [State.noFrameReply, hw.pins.device, hw.wireReply_eq]
  unfold State.noFrameMoves
  rw [hw.pins.xrspValid, hr]
  split
  · calc (g s).respond s.noFrameReply
        = (g s).answeredWith s.dev s.draws s.noFrameReply s.zeroState s.progState := by
          rw [← hw.dev, ← hw.draws, ← hz, ← hp]; rfl
      _ = g (s.respond s.noFrameReply) := (hg _ _ _ _ _).symm
  · rfl

end

-- Reset.

section
variable {s t : State}

theorem State.abandonFrame_of_ne (hq : s.seq ≠ .waitX) : s.abandonFrame = s := by
  unfold State.abandonFrame
  split
  · contradiction
  · rfl

/-- The device's side of a reset writes the device only. -/
theorem State.abandonFrame_eq : s.abandonFrame = { s with dev := s.abandonFrame.dev } := by
  unfold State.abandonFrame State.deviceActs State.deviceStores
  repeat' split
  all_goals rfl

/-- The step of a reset depends on the build, the device, the schedule and the frame in flight only. -/
theorem step_reset_congr (hr : s.pins.reset = true) (hr' : t.pins.reset = true) (hb : t.build = s.build)
    (hdev : t.dev = s.dev) (hdraws : t.draws = s.draws) (henv : t.env = s.env) (hq : t.seq = s.seq)
    (hx : t.xout = s.xout) (hm : s.seq = .waitX → t.pins.device = s.pins.device) : step t = step s := by
  have hleft : t.abandonFrame.dev = s.abandonFrame.dev := by
    by_cases hwait : s.seq = .waitX
    · unfold State.abandonFrame
      rw [hq, hx, hm hwait]
      repeat' split
      all_goals simp [hb, hdev]
    · rw [State.abandonFrame_of_ne hwait, State.abandonFrame_of_ne (hq ▸ hwait), hdev]
  rw [step_reset hr, step_reset hr', s.abandonFrame_eq, t.abandonFrame_eq, hleft, State.advance_eq, State.advance_eq]
  simp [State.resetRpc, hb, hdraws, henv]

end

-- The pins and the moves of an operation.

section
variable (s : State) (p : Pins)

theorem Result.map_ite {c : Prop} [Decidable c] (g : State → State) (r r' : Result) :
    (if c then r else r').map g = if c then r.map g else r'.map g := by
  split <;> rfl

theorem State.sequence_withPins (start : Result) (rest : List (Byte → Result)) (resume : Result) :
    (s.sequence start rest resume).map (State.withPins p) =
      (s.withPins p).sequence (start.map (State.withPins p)) (rest.map fun cont b => (cont b).map (State.withPins p))
        (resume.map (State.withPins p)) := by
  have hreply : (s.withPins p).reply = s.reply := rfl
  have hcount : (s.withPins p).stepCount = s.stepCount := rfl
  unfold State.sequence
  rw [hreply, hcount]
  cases s.reply with
  | none => exact Result.map_ite _ _ _
  | some r =>
    cases r with
    | fail info => rfl
    | ok b =>
      cases s.stepCount.toNat with
      | zero => rfl
      | succ k => cases hk : rest[k]? <;> simp [hk, Result.map]

theorem State.guardArg_withPins (ok : Bool) (k : Result) :
    (s.guardArg ok k).map (State.withPins p) = (s.withPins p).guardArg ok (k.map (State.withPins p)) := by
  cases ok <;> rfl

theorem State.readOne_withPins (addr : Addr) (value : Byte → Word) :
    (s.readOne addr value).map (State.withPins p) = (s.withPins p).readOne addr value :=
  s.sequence_withPins p _ _ _

theorem State.readPair_withPins (addrH addrL : Addr) (value : Byte → Byte → Word) :
    (s.readPair addrH addrL value).map (State.withPins p) = (s.withPins p).readPair addrH addrL value :=
  s.sequence_withPins p _ _ _

theorem State.writeOne_withPins (ok : Bool) (addr : Addr) (v : Byte) :
    (s.writeOne ok addr v).map (State.withPins p) = (s.withPins p).writeOne ok addr v := by
  rw [State.writeOne, State.sequence_withPins, State.guardArg_withPins]; rfl

theorem State.readModifyWrite_withPins (ok : Bool) (addr : Addr) (newByte : Byte → Byte) :
    (s.readModifyWrite ok addr newByte).map (State.withPins p) = (s.withPins p).readModifyWrite ok addr newByte := by
  rw [State.readModifyWrite, State.sequence_withPins, State.guardArg_withPins]; rfl

theorem State.writePair_withPins (ok : Bool) (addrH addrL : Addr) (high : Byte) (low : Byte → Byte) :
    (s.writePair ok addrH addrL high low).map (State.withPins p) = (s.withPins p).writePair ok addrH addrL high low := by
  have hbuild : (s.withPins p).build = s.build := rfl
  unfold State.writePair
  rw [hbuild]
  cases s.build.rmw2Order <;> dsimp only <;> rw [State.sequence_withPins, State.guardArg_withPins] <;> rfl

theorem execRdreg_withPins (addr : Addr) :
    (execRdreg addr s).map (State.withPins p) = execRdreg addr (s.withPins p) := by
  rw [execRdreg, State.sequence_withPins, State.guardArg_withPins]; rfl

theorem execRdangle_withPins : (execRdangle s).map (State.withPins p) = execRdangle (s.withPins p) := by
  rw [execRdangle, State.sequence_withPins, Result.map_ite, State.angleVerdict, Result.map_ite]; rfl

theorem execGdir_withPins : (execGdir s).map (State.withPins p) = execGdir (s.withPins p) := by
  rw [execGdir, State.sequence_withPins]
  simp only [List.map_cons, List.map_nil, Result.map_ite]; rfl

theorem execZero_withPins : (execZero s).map (State.withPins p) = execZero (s.withPins p) := by
  rw [execZero, State.sequence_withPins]
  simp only [List.map_cons, List.map_nil, Result.map_ite]; rfl

theorem execProg_withPins : (execProg s).map (State.withPins p) = execProg (s.withPins p) := by
  rw [execProg, State.sequence_withPins]
  simp only [List.map_cons, List.map_nil, Result.map_ite]; rfl

/-- No move of an operation reads a pin. -/
theorem exec_withPins {i : Instr} (hi : i.isWire = false) :
    Result.map (State.withPins p) (exec i s) = exec i (s.withPins p) := by
  cases i with
  | wireRd | wireWr | wireZero | wireProg | wireBurst => cases hi
  | rdreg addr => exact execRdreg_withPins s p addr
  | rdangle => exact execRdangle_withPins s p
  | gdir => exact execGdir_withPins s p
  | zero => exact execZero_withPins s p
  | prog => exact execProg_withPins s p
  | burst => rfl
  | guid | gabz | gswap | gzedge | gzwid | gzph => exact s.readOne_withPins p _ _
  | gres => exact s.readPair_withPins p _ _ _
  | gzpos => exact s.readPair_withPins p _ _ fun h l => (zposUnpack h l).setWidth 32
  | wrreg | suid => exact s.writeOne_withPins p _ _ _
  | rmw | sabz | sswap | szedge | szwid | szph | sdir => exact s.readModifyWrite_withPins p _ _ _
  | sres | szpos => exact s.writePair_withPins p _ _ _ _ _

-- The step.

theorem State.advance_withPins : (s.withPins p).advance = s.advance := by
  rw [State.advance_eq, State.advance_eq]; rfl

theorem Result.advanced_withPins (r : Result) : Result.advanced (r.map (State.withPins p)) = Result.advanced r := by
  cases r with
  | next t => exact congrArg Host.Outcome.next (t.advance_withPins p)
  | fault | refused => rfl

variable {s p}

theorem State.bystander_withPins (h : p.SameAnswer s.pins) : s.Bystander (State.withPins p) :=
  ⟨⟨rfl, rfl, rfl, h⟩, rfl, rfl, fun _ _ _ _ _ => rfl⟩

theorem State.hostMoves_withPins (hv : p.reqValid = s.pins.reqValid) (hw : p.req = s.pins.req) :
    (s.withPins p).hostMoves = s.hostMoves.withPins p := by
  show (if p.reqValid then (s.withPins p).accept p.req else s.withPins p) = s.hostMoves.withPins p
  rw [hv, hw, State.hostMoves]
  split <;> rfl

theorem State.settleMoves_withPins (he : p.settleElapsed = s.pins.settleElapsed) :
    (s.withPins p).settleMoves = s.settleMoves.withPins p := by
  show (if p.settleElapsed then { s.withPins p with seq := .run } else s.withPins p) = s.settleMoves.withPins p
  rw [he, State.settleMoves]
  split <;> rfl

/-- The pins a step depends on: RESET always, the request port with BUSY = 0, the answer in WaitX, settle-elapsed in
Settle. -/
theorem step_withPins (hreset : p.reset = s.pins.reset)
    (hreq : s.busy = false → p.reqValid = s.pins.reqValid ∧ p.req = s.pins.req)
    (hwait : s.seq = .waitX → p.SameAnswer s.pins) (hsettle : s.seq = .settle → p.settleElapsed = s.pins.settleElapsed) :
    step (s.withPins p) = step s := by
  have hq : (s.withPins p).seq = s.seq := rfl
  cases hr : s.pins.reset with
  | true => exact step_reset_congr hr (hreset.trans hr) rfl rfl rfl rfl rfl rfl fun h => (hwait h).device
  | false =>
    have hr' : (s.withPins p).pins.reset = false := hreset.trans hr
    cases hs : s.seq with
    | idle | done =>
      have hb : s.busy = false := by simp [State.busy, hs]
      obtain ⟨hv, hw⟩ := hreq hb
      rw [step_host hr hb, step_host hr' hb, State.hostMoves_withPins hv hw, State.advance_withPins]
    | settle =>
      rw [step_settle hr hs, step_settle hr' (hq.trans hs), State.settleMoves_withPins (hsettle hs), State.advance_withPins]
    | run =>
      cases hi : s.inHand with
      | ok i =>
        rw [step_run hr hs hi, step_run hr' (hq.trans hs) hi, ← exec_withPins s p (decodeOp_isWire hi),
          Result.advanced_withPins]
      | error e =>
        rw [step_run_illegal hr hs hi, step_run_illegal hr' (hq.trans hs) hi]
        exact congrArg Host.Outcome.next (State.advance_withPins (s.over (.err .illegalOperation) Work.cleared) p)
    | waitX =>
      have hby := State.bystander_withPins (hwait hs)
      cases hx : s.xout with
      | none =>
        rw [step_waitX_noFrame hr hs hx, step_waitX_noFrame hr' (hq.trans hs) hx, hby.noFrameMoves_eq,
          State.advance_withPins]
      | some f =>
        cases hd : decodeFrame s.build f with
        | ok i =>
          rw [step_waitX hr hs hx hd, step_waitX hr' (hq.trans hs) hx hd, hby.exec_eq (decodeFrame_isWire hd),
             Result.advanced_withPins]
        | error e =>
          rw [step_waitX_strange hr hs hx hd, step_waitX_strange hr' (hq.trans hs) hx hd, hby.exchange_eq,
            State.advance_withPins]

end

/-- Settles O4: the request port is read with BUSY = 0 only. -/
theorem requestWhileBusyHasNoEffect : Obligations.RequestWhileBusyHasNoEffect := by
  intro s v w hb
  exact step_withPins rfl (fun h => absurd (hb.symm.trans h) nofun) (fun _ => ⟨rfl, rfl, rfl, rfl, rfl⟩) fun _ => rfl

/-- Settles O5: the answer's pins are read in WaitX only, settle-elapsed in Settle only. -/
theorem environmentEventsAreIgnoredElsewhere : Obligations.EnvironmentEventsAreIgnoredElsewhere := by
  refine ⟨fun s v d f n m hq => ?_, fun s e hq => ?_⟩
  · exact step_withPins rfl (fun _ => ⟨rfl, rfl⟩) (fun h => absurd h hq) fun _ => rfl
  · exact step_withPins rfl (fun _ => ⟨rfl, rfl⟩) (fun _ => ⟨rfl, rfl, rfl, rfl, rfl⟩) fun h => absurd h hq

end Sys2Proof.Machine
end

section
/-! PROOF. O60: no rule reads the request latch or a working register before a write (R34, U7). Two runs that start with other
values there stay alike in everything else: a register that an operation reads, it has written since its request was accepted,
and then the two runs agree on it. -/

namespace Sys2Proof.Machine

/-- How many exchanges the operation in hand has started. -/
def State.issued (s : State) : Nat := if s.seq = .waitX then s.stepCount.toNat + 1 else s.stepCount.toNat

/-- The working registers `w` agree with those of `s` wherever operation `i` has written one that it is still to read: the
angle's bytes and its two CRCs (R18, R90), the high byte of a pair (R17, R125), and the low byte that ReadFirst computes
before it writes the high one (R19, R124). -/
def State.Live (s : State) (w : Work) : Instr → Prop
  | .rdangle =>
    (1 ≤ s.issued → w.composite = s.composite) ∧
    (s.seq ≠ .waitX → s.reply = none → s.stepCount ≠ 0 → w.crcRx = s.crcRx ∧ w.crc = s.crc)
  | .gres | .gzpos => 2 ≤ s.issued → w.tmp = s.tmp
  | .sres _ | .szpos _ => s.build.rmw2Order = .readFirst → 2 ≤ s.issued → w.wdl = s.wdl
  | .rdreg _ | .wrreg _ _ | .rmw _ _ _ | .guid | .suid _ | .gabz | .sabz _ | .gswap | .sswap _ | .gzedge | .szedge _
  | .gzwid | .szwid _ | .gzph | .szph _ | .gdir | .sdir _ | .zero | .prog | .burst
  | .wireRd _ _ | .wireWr _ _ | .wireZero _ _ | .wireProg _ _ | .wireBurst _ _ => True

/-- If `r` answers a next state then `r'` answers the same one up to the working registers, which agree where operation `i`
is still to read them, unless it has ended. -/
def Result.Shadowed (i : Instr) (r r' : Result) : Prop :=
  ∀ u, r = .next u → ∃ w, r' = .next (u.withWork w) ∧ (u.busy = true → u.Live w i)

section
variable {s u t : State} {i : Instr} {w : Work}

theorem State.issued_waitX (hq : s.seq = .waitX) : s.issued = s.stepCount.toNat + 1 := if_pos hq

theorem State.issued_of_ne (hq : s.seq ≠ .waitX) : s.issued = s.stepCount.toNat := if_neg hq

-- Pairs of results.

theorem Result.shadowed_next (w' : Work) (ht : t = u.withWork w') (hl : u.Live w' i) :
    Result.Shadowed i (.next u) (.next t) := fun v hv => by
  obtain rfl : u = v := Host.Outcome.next.inj hv
  exact ⟨w', congrArg Host.Outcome.next ht, fun _ => hl⟩

/-- The end of an operation leaves nothing to read. -/
theorem State.over_shadowed (s : State) (w : Work) (r : Rsp) (v : Work) :
    Result.Shadowed i (.next (s.over r v)) (.next ((s.withWork w).over r v)) := fun u hu => by
  obtain rfl : s.over r v = u := Host.Outcome.next.inj hu
  exact ⟨v, rfl, fun hb => Bool.noConfusion hb⟩

theorem State.returnOk_shadowed (s : State) (w : Work) (v : Word) :
    Result.Shadowed i (.next (s.returnOk v)) (.next ((s.withWork w).returnOk v)) :=
  s.over_shadowed w (.ok v) Work.cleared

theorem State.raise_shadowed (s : State) (w : Work) (e : OpError) :
    Result.Shadowed i (.next (s.raise e)) (.next ((s.withWork w).raise e)) :=
  s.over_shadowed w (.err e) Work.cleared

theorem Result.shadowed_fault (f : Fault) : Result.Shadowed i (.fault f) (.fault f) := fun _ h => nomatch h

theorem Result.shadowed_ite {c : Prop} [Decidable c] {r₁ r₁' r₂ r₂' : Result} (h₁ : r₁.Shadowed i r₁')
    (h₂ : r₂.Shadowed i r₂') : Result.Shadowed i (if c then r₁ else r₂) (if c then r₁' else r₂') := by
  split
  · exact h₁
  · exact h₂

theorem State.guardArg_shadowed {ok : Bool} {k k' : Result} (hk : k.Shadowed i k') :
    (s.guardArg ok k).Shadowed i ((s.withWork w).guardArg ok k') := by
  cases ok
  · exact s.raise_shadowed w .invalidArgument
  · exact hk

/-- Two lines are alike if their starts are, their continuations after each exchange, and their moves after the last. -/
theorem State.sequence_shadowed {start start' resume resume' : Result} {rest rest' : List (Byte → Result)}
    (hstart : s.stepCount.toNat = 0 → start.Shadowed i start')
    (hrest : ∀ k b (hk : k < rest.length), s.stepCount.toNat = k + 1 →
      ∃ cont', rest'[k]? = some cont' ∧ (rest[k] b).Shadowed i (cont' b))
    (hresume : s.reply = none → s.stepCount ≠ 0 → resume.Shadowed i resume') :
    (s.sequence start rest resume).Shadowed i ((s.withWork w).sequence start' rest' resume') := by
  intro u hu
  rcases State.sequence_next hu with ⟨info, hr, rfl⟩ | ⟨k, b, cont, hr, hk, hc, hcont⟩ | ⟨h, hu⟩ | ⟨hr, h0, hu⟩
  · rw [State.sequence_failed (s := s.withWork w) hr]
    exact s.raise_shadowed w (.transport info) _ rfl
  · obtain ⟨hlt, rfl⟩ := List.getElem?_eq_some_iff.mp hc
    obtain ⟨cont', hc', hsh⟩ := hrest k b hlt hk
    rw [State.sequence_answered (s := s.withWork w) ⟨rfl, hr⟩ hk hc']
    exact hsh u hcont
  · rw [State.sequence_atStart (s := s.withWork w) h]
    exact hstart (by simp [h.1]) u hu
  · rw [State.sequence_resumed (s := s.withWork w) hr h0]
    exact hresume hr h0 u hu

-- The shapes of the operations.

theorem State.readOne_shadowed (hl : ∀ u w, State.Live u w i) (addr : Addr) (value : Byte → Word) :
    (s.readOne addr value).Shadowed i ((s.withWork w).readOne addr value) := by
  refine State.sequence_shadowed (fun _ => Result.shadowed_next w rfl (hl _ _)) (fun k b hk _ => ?_)
    fun _ _ => Result.shadowed_fault _
  match k with
  | 0 => exact ⟨_, rfl, s.returnOk_shadowed w _⟩
  | k + 1 => simp at hk

theorem State.writeOne_shadowed (hl : ∀ u w, State.Live u w i) (ok : Bool) (addr : Addr) (v : Byte) :
    (s.writeOne ok addr v).Shadowed i ((s.withWork w).writeOne ok addr v) := by
  refine State.sequence_shadowed (fun _ => State.guardArg_shadowed (Result.shadowed_next w rfl (hl _ _))) (fun k b hk _ => ?_)
    fun _ _ => Result.shadowed_fault _
  match k with
  | 0 => exact ⟨_, rfl, s.returnOk_shadowed w _⟩
  | k + 1 => simp at hk

theorem State.readModifyWrite_shadowed (hl : ∀ u w, State.Live u w i) (ok : Bool) (addr : Addr)
    (newByte : Byte → Byte) :
    (s.readModifyWrite ok addr newByte).Shadowed i ((s.withWork w).readModifyWrite ok addr newByte) := by
  refine State.sequence_shadowed (fun _ => State.guardArg_shadowed (Result.shadowed_next w rfl (hl _ _))) (fun k b hk _ => ?_)
    fun _ _ => Result.shadowed_fault _
  match k with
  | 0 => exact ⟨_, rfl, Result.shadowed_next { w with tmp := b, wdl := newByte b } rfl (hl _ _)⟩
  | 1 => exact ⟨_, rfl, s.returnOk_shadowed w _⟩
  | k + 2 => simp at hk

/-- A state that waits for the answer to exchange `n + 1` has started `n + 1`. -/
theorem State.issued_sent (f : Frame) : (s.sent f).issued = s.stepCount.toNat + 1 := State.issued_waitX rfl

/-- The getter of a pair reads TMP after it has written it. -/
theorem State.readPair_shadowed (hl : ∀ u w, State.Live u w i ↔ (2 ≤ u.issued → w.tmp = u.tmp)) (hq : s.seq ≠ .waitX)
    (hlive : s.Live w i) (addrH addrL : Addr) (value : Byte → Byte → Word) :
    (s.readPair addrH addrL value).Shadowed i ((s.withWork w).readPair addrH addrL value) := by
  refine State.sequence_shadowed (fun h0 => Result.shadowed_next w rfl ((hl _ _).mpr fun hn => ?_))
    (fun k b hk hcount => ?_) fun _ _ => Result.shadowed_fault _
  · rw [State.memRead_eq_sent, State.issued_sent, h0] at hn
    omega
  · match k with
    | 0 => exact ⟨_, rfl, Result.shadowed_next { w with tmp := b } rfl ((hl _ _).mpr fun _ => rfl)⟩
    | 1 =>
      have htmp : w.tmp = s.tmp := (hl s w).mp hlive (by rw [State.issued_of_ne hq, hcount])
      refine ⟨_, rfl, ?_⟩
      rw [State.withWork_tmp, htmp]
      exact s.returnOk_shadowed w _
    | k + 2 => simp at hk

/-- A two-register setter reads WDL, under ReadFirst only, after it has written it. -/
theorem State.writePair_shadowed
    (hl : ∀ u w, State.Live u w i ↔ (u.build.rmw2Order = .readFirst → 2 ≤ u.issued → w.wdl = u.wdl))
    (hq : s.seq ≠ .waitX) (hlive : s.Live w i) (ok : Bool) (addrH addrL : Addr) (high : Byte) (low : Byte → Byte) :
    (s.writePair ok addrH addrL high low).Shadowed i ((s.withWork w).writePair ok addrH addrL high low) := by
  unfold State.writePair
  rw [State.withWork_build]
  cases ho : s.build.rmw2Order with
  | readFirst =>
    refine State.sequence_shadowed
      (fun h0 => State.guardArg_shadowed (Result.shadowed_next w rfl ((hl _ _).mpr fun _ hn => ?_)))
      (fun k b hk hcount => ?_) fun _ _ => Result.shadowed_fault _
    · rw [State.memRead_eq_sent, State.issued_sent, h0] at hn
      omega
    · match k with
      | 0 =>
        exact ⟨_, rfl, Result.shadowed_next { w with tmp := b, wdh := high, wdl := low b } rfl
          ((hl _ _).mpr fun _ _ => rfl)⟩
      | 1 =>
        have hwdl : w.wdl = s.wdl := (hl s w).mp hlive ho (by rw [State.issued_of_ne hq, hcount])
        refine ⟨_, rfl, ?_⟩
        rw [State.withWork_wdl, hwdl]
        exact Result.shadowed_next w rfl ((hl _ _).mpr fun _ _ => hwdl)
      | 2 => exact ⟨_, rfl, s.returnOk_shadowed w _⟩
      | k + 3 => simp at hk
  | writeHighFirst =>
    have hfree : ∀ (u : State) (v : Work), u.build = s.build → u.Live v i := fun u v hu =>
      (hl u v).mpr fun hf => absurd hf (by simp [hu, ho])
    refine State.sequence_shadowed
      (fun _ => State.guardArg_shadowed (Result.shadowed_next { w with wdh := high } rfl (hfree _ _ rfl)))
      (fun k b hk _ => ?_) fun _ _ => Result.shadowed_fault _
    match k with
    | 0 => exact ⟨_, rfl, Result.shadowed_next w rfl (hfree _ _ rfl)⟩
    | 1 => exact ⟨_, rfl, Result.shadowed_next { w with tmp := b, wdl := low b } rfl (hfree _ _ rfl)⟩
    | 2 => exact ⟨_, rfl, s.returnOk_shadowed w _⟩
    | k + 3 => simp at hk

/-- RDANGLE clears COMPOSITE before it ORs the bytes in. -/
theorem State.angleByte_shadowed (hcomposite : w.composite = s.composite) (k : Nat) (b : Byte) (next : Addr) :
    (s.angleByte k b next).Shadowed .rdangle ((s.withWork w).angleByte k b next) :=
  Result.shadowed_next { w with composite := orByte w.composite k b } rfl
    ⟨fun _ => congrArg (orByte · k b) hcomposite, fun hq => absurd rfl hq⟩

/-- The validator reads the composite that the run has assembled. -/
theorem State.angleCrc_shadowed (hcomposite : w.composite = s.composite) (b : Byte) :
    (s.angleCrc b).Shadowed .rdangle ((s.withWork w).angleCrc b) := by
  refine Result.shadowed_next { w with crcRx := b, crc := crc8Angle s.build.crcSliceSource w.composite } rfl
    ⟨fun _ => hcomposite, fun _ _ _ => ⟨rfl, ?_⟩⟩
  exact congrArg (crc8Angle s.build.crcSliceSource) hcomposite

/-- The verdict reads the two CRCs that the move before it has written. -/
theorem State.angleVerdict_shadowed (hcomposite : w.composite = s.composite) (hcrcRx : w.crcRx = s.crcRx)
    (hcrc : w.crc = s.crc) : s.angleVerdict.Shadowed .rdangle (s.withWork w).angleVerdict := by
  unfold State.angleVerdict
  rw [State.withWork_crc, State.withWork_crcRx, State.withWork_composite, hcomposite, hcrcRx, hcrc]
  exact Result.shadowed_ite (s.returnOk_shadowed w _) (s.raise_shadowed w _)

theorem execRdangle_shadowed (hq : s.seq ≠ .waitX) (hlive : s.Live w .rdangle) :
    (execRdangle s).Shadowed .rdangle (execRdangle (s.withWork w)) := by
  obtain ⟨hcomposite, hcrcs⟩ := hlive
  rw [State.issued_of_ne hq] at hcomposite
  refine State.sequence_shadowed
    (fun _ => Result.shadowed_next { w with composite := 0 } rfl ⟨fun _ => rfl, fun hq => absurd rfl hq⟩)
    (fun k b hk hcount => ?_) fun hr h0 => ?_
  · have hc : w.composite = s.composite := hcomposite (by omega)
    match k with
    | 0 => exact ⟨_, rfl, State.angleByte_shadowed hc 0 b _⟩
    | 1 => exact ⟨_, rfl, State.angleByte_shadowed hc 1 b _⟩
    | 2 => exact ⟨_, rfl, State.angleByte_shadowed hc 2 b _⟩
    | 3 => exact ⟨_, rfl, State.angleCrc_shadowed hc b⟩
    | k + 4 => simp at hk
  · obtain ⟨hcrcRx, hcrc⟩ := hcrcs hq hr h0
    have hpos : s.stepCount.toNat ≠ 0 := fun h => h0 (BitVec.eq_of_toNat_eq h)
    have hc : w.composite = s.composite := hcomposite (by omega)
    exact Result.shadowed_ite (State.angleVerdict_shadowed hc hcrcRx hcrc) (Result.shadowed_fault _)

theorem execRdreg_shadowed (addr : Addr) :
    (execRdreg addr s).Shadowed (.rdreg addr) (execRdreg addr (s.withWork w)) := by
  refine State.sequence_shadowed (fun _ => State.guardArg_shadowed (Result.shadowed_next w rfl trivial))
    (fun k b hk _ => ?_) fun _ _ => Result.shadowed_fault _
  match k with
  | 0 => exact ⟨_, rfl, s.returnOk_shadowed w _⟩
  | k + 1 => simp at hk

theorem execGdir_shadowed : (execGdir s).Shadowed .gdir (execGdir (s.withWork w)) := by
  refine State.sequence_shadowed (fun _ => Result.shadowed_next w rfl trivial) (fun k b hk _ => ?_)
    fun _ _ => Result.shadowed_fault _
  match k with
  | 0 => exact ⟨_, rfl, Result.shadowed_ite (s.returnOk_shadowed w _)
      (Result.shadowed_ite (s.returnOk_shadowed w _) (s.raise_shadowed w _))⟩
  | k + 1 => simp at hk

theorem execZero_shadowed : (execZero s).Shadowed .zero (execZero (s.withWork w)) := by
  refine State.sequence_shadowed (fun _ => Result.shadowed_next w rfl trivial) (fun k b hk _ => ?_)
    fun _ _ => Result.shadowed_fault _
  match k with
  | 0 => exact ⟨_, rfl, Result.shadowed_ite (s.returnOk_shadowed w _) (s.raise_shadowed w _)⟩
  | k + 1 => simp at hk

theorem execProg_shadowed : (execProg s).Shadowed .prog (execProg (s.withWork w)) := by
  refine State.sequence_shadowed (fun _ => Result.shadowed_next w rfl trivial) (fun k b hk _ => ?_)
    fun _ _ => Result.shadowed_ite (s.returnOk_shadowed w _) (Result.shadowed_fault _)
  match k with
  | 0 => exact ⟨_, rfl, Result.shadowed_ite (Result.shadowed_next w rfl trivial) (s.raise_shadowed w _)⟩
  | k + 1 => simp at hk

/-- A move of the operation in hand reads no working register that the operation has not written. -/
theorem exec_shadowed (hi : i.isWire = false) (hq : s.seq ≠ .waitX) (hlive : s.Live w i) :
    Result.Shadowed i (exec i s) (exec i (s.withWork w)) := by
  cases i with
  | wireRd | wireWr | wireZero | wireProg | wireBurst => cases hi
  | rdreg addr => exact execRdreg_shadowed addr
  | rdangle => exact execRdangle_shadowed hq hlive
  | gdir => exact execGdir_shadowed
  | zero => exact execZero_shadowed
  | prog => exact execProg_shadowed
  | burst => exact s.raise_shadowed w .illegalOperation
  | guid | gabz | gswap | gzedge | gzwid | gzph =>
    refine State.readOne_shadowed ?_ _ _
    exact fun _ _ => trivial
  | gres => exact State.readPair_shadowed (fun _ _ => Iff.rfl) hq hlive _ _ _
  | gzpos =>
    exact State.readPair_shadowed (fun _ _ => Iff.rfl) hq hlive _ _ fun h l => (zposUnpack h l).setWidth 32
  | wrreg | suid =>
    refine State.writeOne_shadowed ?_ _ _ _
    exact fun _ _ => trivial
  | rmw | sabz | sswap | szedge | szwid | szph | sdir =>
    refine State.readModifyWrite_shadowed ?_ _ _ _
    exact fun _ _ => trivial
  | sres | szpos => exact State.writePair_shadowed (fun _ _ => Iff.rfl) hq hlive _ _ _ _ _

-- The exchange.

/-- The working registers stand by during an exchange. -/
theorem State.bystander_withWork : s.Bystander (State.withWork · w) :=
  ⟨⟨rfl, rfl, rfl, ⟨rfl, rfl, rfl, rfl, rfl⟩⟩, rfl, rfl, fun _ _ _ _ _ => rfl⟩

/-- From `s` to `u` an exchange waits unchanged or takes its answer. -/
def State.WaitsOrAnswered (s u : State) : Prop := u = s ∨ ∃ dev draws r z p, u = s.answeredWith dev draws r z p

theorem State.exchange_waitsOrAnswered (cmd : Cmd) (addr : Addr) (tx : Byte) :
    s.WaitsOrAnswered (s.exchange cmd addr tx) := by
  cases hv : s.pins.xrspValid with
  | false => exact .inl (s.exchange_waits hv cmd addr tx)
  | true => exact .inr ⟨_, _, _, _, _, s.exchange_eq_answeredWith cmd addr tx hv⟩

theorem State.noFrameMoves_waitsOrAnswered : s.WaitsOrAnswered s.noFrameMoves := by
  unfold State.noFrameMoves
  split
  · exact .inr ⟨s.dev, s.draws, s.noFrameReply, s.zeroState, s.progState, rfl⟩
  · exact .inl rfl

theorem exec_wire_waitsOrAnswered {j : Instr} (hj : j.isWire = true) (h : exec j s = .next u) : s.WaitsOrAnswered u := by
  cases j with
  | wireRd addr tx | wireWr addr tx | wireBurst addr tx =>
    obtain rfl := Host.Outcome.next.inj h
    exact s.exchange_waitsOrAnswered _ addr tx
  | wireZero addr tx | wireProg addr tx =>
    obtain rfl := Host.Outcome.next.inj h
    cases hv : s.pins.xrspValid with
    | false => exact .inl (by simp [s.exchange_waits hv])
    | true => exact .inr ⟨_, _, _, _, _, by rw [s.exchange_eq_answeredWith _ addr tx hv]; rfl⟩
  | _ => cases hj

theorem Reply.count_le (r : Reply) (n : BitVec 3) : (r.count n).toNat ≤ n.toNat + 1 := by
  cases r with
  | ok b => exact (BitVec.toNat_add n 1).trans_le (Nat.mod_le _ _)
  | fail info => exact Nat.le_succ _

/-- A state with the same working registers in which no more exchanges are started asks no more of `w`, unless it is
RDANGLE's verdict that comes next. -/
theorem State.Live.mono (h : s.Live w i) (hbuild : u.build = s.build) (htmp : u.tmp = s.tmp) (hwdl : u.wdl = s.wdl)
    (hcomposite : u.composite = s.composite) (hissued : u.issued ≤ s.issued)
    (hverdict : i = .rdangle → u.seq ≠ .waitX → u.reply = none → u.stepCount ≠ 0 →
      w.crcRx = u.crcRx ∧ w.crc = u.crc) :
    u.Live w i := by
  cases i with
  | rdangle =>
    exact ⟨fun hn => (h.1 (hn.trans hissued)).trans hcomposite.symm, hverdict rfl⟩
  | gres | gzpos => exact fun hn => (h (hn.trans hissued)).trans htmp.symm
  | sres | szpos => exact fun ho hn => (h (hbuild ▸ ho) (hn.trans hissued)).trans hwdl.symm
  | _ => trivial

/-- An exchange asks no more of the working registers after its answer than it did before. -/
theorem State.WaitsOrAnswered.live (hu : s.WaitsOrAnswered u) (hq : s.seq = .waitX) (h : s.Live w i) : u.Live w i := by
  rcases hu with rfl | ⟨dev, draws, r, z, p, rfl⟩
  · exact h
  · refine h.mono rfl rfl rfl rfl ?_ fun _ _ hr => nomatch hr
    rw [State.issued_waitX hq, State.issued_of_ne (s := s.answeredWith dev draws r z p) nofun]
    exact r.count_le s.stepCount

theorem State.WaitsOrAnswered.inHand (hu : s.WaitsOrAnswered u) : u.inHand = s.inHand := by
  rcases hu with rfl | ⟨dev, draws, r, z, p, rfl⟩ <;> rfl

-- Two runs.

/-- `t` is `s` with other values in the request latch and the working registers. While an operation is in hand the latches
are equal, and the working registers agree where the operation is still to read what it has written. -/
def State.Shadow (s t : State) : Prop :=
  ∃ w op arg, t = (s.withWork w).withRequest op arg ∧
    (s.busy = true → op = s.reqOp ∧ arg = s.reqArg ∧ ∀ i, s.inHand = .ok i → s.Live w i)

theorem State.shadow_of_idle (hb : s.busy = false) (w : Work) (op : Byte) (arg : Word) :
    s.Shadow ((s.withWork w).withRequest op arg) :=
  ⟨w, op, arg, rfl, fun h => absurd (hb.symm.trans h) nofun⟩

theorem State.shadow_withWork (hl : s.busy = true → ∀ i, s.inHand = .ok i → s.Live w i) : s.Shadow (s.withWork w) :=
  ⟨w, s.reqOp, s.reqArg, rfl, fun hb => ⟨rfl, rfl, hl hb⟩⟩

theorem State.Shadow.refl (s : State) : s.Shadow s := by
  refine State.shadow_withWork (s := s) (w := ⟨s.tmp, s.wdh, s.wdl, s.composite, s.crcRx, s.crc⟩) fun _ i _ => ?_
  cases i <;> simp [State.Live]

/-- The pins and their schedule are the same in both runs. -/
theorem State.Shadow.advance (h : s.Shadow t) : s.advance.Shadow t.advance := by
  obtain ⟨w, op, arg, rfl, hl⟩ := h
  rw [State.advance_eq, State.advance_eq]
  exact ⟨w, op, arg, rfl, hl⟩

theorem State.Shadow.withPins (h : s.Shadow t) (p : Pins) : (s.withPins p).Shadow (t.withPins p) := by
  obtain ⟨w, op, arg, rfl, hl⟩ := h
  exact ⟨w, op, arg, rfl, hl⟩

/-- An accepted request has started no exchange, so its operation is to read nothing yet. -/
theorem State.live_of_start (hq : s.seq = .run) (h0 : s.stepCount = 0) : s.Live w i := by
  have hissued : s.issued = 0 := by rw [State.issued_of_ne (by simp [hq]), h0]; rfl
  cases i <;> simp [State.Live, hissued, h0]

theorem State.hostMoves_shadow (hb : s.busy = false) (w : Work) (op : Byte) (arg : Word) :
    s.hostMoves.Shadow ((s.withWork w).withRequest op arg).hostMoves := by
  unfold State.hostMoves
  rw [State.withRequest_pins, State.withWork_pins]
  split
  · exact State.shadow_withWork (s := s.accept s.pins.req) (w := w) fun _ _ _ => State.live_of_start rfl rfl
  · exact State.shadow_of_idle hb w op arg

theorem State.settleMoves_shadow (hl : ∀ i, s.inHand = .ok i → s.Live w i) (hq : s.seq = .settle) :
    s.settleMoves.Shadow (s.withWork w).settleMoves := by
  unfold State.settleMoves
  rw [State.withWork_pins]
  split
  · refine State.shadow_withWork (s := { s with seq := .run }) fun _ i hi => ?_
    have hne : s.seq ≠ .waitX := by simp [hq]
    refine (hl i hi).mono rfl rfl rfl rfl ?_ fun hangle _ hr h0 => ?_
    · rw [State.issued_of_ne hne, State.issued_of_ne (s := { s with seq := .run }) nofun]
    · subst hangle
      exact (hl _ hi).2 hne hr h0
  · exact State.shadow_withWork fun _ => hl

/-- A step with an operation in hand takes two states that are alike to two that are alike. -/
theorem step_shadow_of_busy (hr : s.pins.reset = false) (hb : s.busy = true) (hl : ∀ i, s.inHand = .ok i → s.Live w i)
    (h : step s = .next u) : ∃ v, step (s.withWork w) = .next v ∧ u.Shadow v := by
  have hby : s.Bystander (State.withWork · w) := State.bystander_withWork
  have hwaits : ∀ v, s.seq = .waitX → s.WaitsOrAnswered v → v.Shadow (v.withWork w) := fun v hq hv =>
    State.shadow_withWork fun _ i hi => hv.live hq (hl i (hv.inHand ▸ hi))
  rcases State.busy_iff.mp hb with hq | hq | hq
  · cases hi : s.inHand with
    | ok i =>
      rw [step_run hr hq hi] at h
      obtain ⟨v, hv, rfl⟩ := Result.advanced_next h
      have hop := decodeOp_isWire hi
      obtain ⟨w', hv', hlive⟩ := exec_shadowed hop (by simp [hq]) (hl i hi) v hv
      obtain ⟨-, -, -, -, -, hreqOp, hreqArg, -⟩ := exec_sameAround s hop v hv
      have hsh : v.Shadow (v.withWork w') := State.shadow_withWork fun hb j hj => by
        rw [State.inHand, hreqOp, hreqArg] at hj
        obtain rfl : i = j := Except.ok.inj (hi.symm.trans hj)
        exact hlive hb
      exact ⟨_, by rw [step_run (s := s.withWork w) hr hq hi, hv']; rfl, hsh.advance⟩
    | error e =>
      rw [step_run_illegal hr hq hi] at h
      obtain rfl := Host.Outcome.next.inj h
      exact ⟨_, step_run_illegal (s := s.withWork w) hr hq hi, State.Shadow.refl _⟩
  · cases hx : s.xout with
    | none =>
      rw [step_waitX_noFrame hr hq hx] at h
      obtain rfl := Host.Outcome.next.inj h
      refine ⟨_, step_waitX_noFrame (s := s.withWork w) hr hq hx, ?_⟩
      rw [hby.noFrameMoves_eq]
      exact (hwaits _ hq State.noFrameMoves_waitsOrAnswered).advance
    | some f =>
      cases hd : decodeFrame s.build f with
      | ok j =>
        rw [step_waitX hr hq hx hd] at h
        obtain ⟨v, hv, rfl⟩ := Result.advanced_next h
        have hj := decodeFrame_isWire hd
        refine ⟨_, by rw [step_waitX (s := s.withWork w) hr hq hx hd, hby.exec_eq hj, hv]; rfl, ?_⟩
        exact (hwaits v hq (exec_wire_waitsOrAnswered hj hv)).advance
      | error e =>
        rw [step_waitX_strange hr hq hx hd] at h
        obtain rfl := Host.Outcome.next.inj h
        refine ⟨_, step_waitX_strange (s := s.withWork w) hr hq hx hd, ?_⟩
        rw [hby.exchange_eq]
        exact (hwaits _ hq (s.exchange_waitsOrAnswered _ _ _)).advance
  · rw [step_settle hr hq] at h
    obtain rfl := Host.Outcome.next.inj h
    exact ⟨_, step_settle (s := s.withWork w) hr hq, (State.settleMoves_shadow hl hq).advance⟩

/-- A step takes two states that are alike to two that are alike. -/
theorem State.Shadow.step_next (h : s.Shadow t) (hu : step s = .next u) : ∃ v, step t = .next v ∧ u.Shadow v := by
  obtain ⟨w, op, arg, rfl, hl⟩ := h
  cases hr : s.pins.reset with
  | true =>
    have hsame : step ((s.withWork w).withRequest op arg) = step s :=
      step_reset_congr hr hr rfl rfl rfl rfl rfl rfl fun _ => rfl
    exact ⟨u, hsame.trans hu, State.Shadow.refl u⟩
  | false =>
    cases hb : s.busy with
    | false =>
      rw [step_host hr hb] at hu
      obtain rfl := Host.Outcome.next.inj hu
      exact ⟨_, step_host (s := (s.withWork w).withRequest op arg) hr hb, (State.hostMoves_shadow hb w op arg).advance⟩
    | true =>
      obtain ⟨rfl, rfl, hlive⟩ := hl hb
      exact step_shadow_of_busy (s := s) hr hb hlive hu

theorem State.Shadow.runWith_next (ps : List Pins) (h : s.Shadow t) (hu : runWith ps s = .next u) :
    ∃ v, runWith ps t = .next v ∧ u.Shadow v := by
  induction ps generalizing s t with
  | nil =>
    obtain rfl := Host.Outcome.next.inj hu
    exact ⟨t, rfl, h⟩
  | cons p ps ih =>
    simp only [runWith] at hu ⊢
    split at hu
    next s' hs' =>
      obtain ⟨t', ht', hsh⟩ := (h.withPins p).step_next hs'
      rw [show stepWith p t = .next t' from ht']
      exact ih hsh hu
    next => cases hu
    next => cases hu

end

/-- Settles O60: two states that are not busy and differ in those registers only are alike, and so are the runs from them. -/
theorem noRuleReadsARegisterBeforeItsWrite : Obligations.NoRuleReadsARegisterBeforeItsWrite := by
  intro s t ps w op arg hb ht
  obtain ⟨v, hv, w', op', arg', rfl, -⟩ := (State.shadow_of_idle hb w op arg).runWith_next ps ht
  exact ⟨w', op', arg', hv⟩

end Sys2Proof.Machine
end

section
/-! PROOF. O39: the exchanges of an operation are those of its table (R43, R48, R49). Which frame a move starts is in the
invariant that the next state meets; that only the last point of the table ends Ok follows from the shape of each line. -/

namespace Sys2Proof.Machine

/-- No operation has ended Ok in this state. -/
def State.NotOk (t : State) : Prop := ∀ v, t.rsp ≠ .ok v

/-- If a move from `s` leads to `t` and operation `i` ends Ok there, all exchanges of its table were completed. -/
def State.OkAtTableEnd (i : Instr) (s t : State) : Prop :=
  ∀ v, t.rsp = .ok v → s.stepCount.toNat = (i.exchanges s.build).length

section
variable {s : State} {i : Instr}

/-- A line with as many continuations as the table has exchanges ends Ok at its end only, if no move before its last
continuation does. -/
theorem State.RunPoint.sequence_okAtTableEnd (hp : s.RunPoint i) {start resume : Result} {rest : List (Byte → Result)}
    (hstart : start.Ensures State.NotOk) (hlen : (i.exchanges s.build).length ≤ rest.length)
    (hrest : ∀ cont ∈ rest.dropLast, ∀ b, (cont b).Ensures State.NotOk)
    (hresume : resume.Ensures (State.OkAtTableEnd i s)) :
    (s.sequence start rest resume).Ensures (State.OkAtTableEnd i s) := by
  intro t h v hv
  rcases State.sequence_next h with ⟨info, -, rfl⟩ | ⟨n, b, cont, hr, hn, hc, ht⟩ | ⟨-, ht⟩ | ⟨-, -, ht⟩
  · cases hv
  · obtain ⟨-, hle, -⟩ := (State.runPoint_ok hr).mp hp
    by_contra hne
    have hbefore : rest.dropLast[n]? = some cont := by
      rw [List.getElem?_dropLast, if_pos (by omega), hc]
    exact hrest cont (List.mem_of_getElem? hbefore) b t ht v hv
  · exact absurd hv (hstart t ht v)
  · exact hresume t ht v hv

theorem State.guardArg_notOk {ok : Bool} {k : Result} (hk : k.Ensures State.NotOk) :
    (s.guardArg ok k).Ensures State.NotOk :=
  State.guardArg_ensures (by simp [State.NotOk]) hk

variable (hr : s.rsp = .absent)
include hr

theorem State.memRead_notOk (addr : Addr) : (s.memRead addr).NotOk := by simp [State.NotOk, hr]

theorem State.memWrite_notOk (addr : Addr) (v : Byte) : (s.memWrite addr v).NotOk := by simp [State.NotOk, hr]

variable (hp : s.RunPoint i)
include hp

theorem State.readOne_okAtTableEnd (hx : (i.exchanges s.build).length ≤ 1) (addr : Addr) (value : Byte → Word) :
    (s.readOne addr value).Ensures (State.OkAtTableEnd i s) :=
  hp.sequence_okAtTableEnd (Result.ensures_next.mpr (State.memRead_notOk hr addr)) hx nofun Result.ensures_fault

theorem State.readPair_okAtTableEnd (hx : (i.exchanges s.build).length ≤ 2) (addrH addrL : Addr)
    (value : Byte → Byte → Word) : (s.readPair addrH addrL value).Ensures (State.OkAtTableEnd i s) := by
  refine hp.sequence_okAtTableEnd (Result.ensures_next.mpr (State.memRead_notOk hr addrH)) hx ?_ Result.ensures_fault
  simp [State.NotOk, hr]

theorem State.writeOne_okAtTableEnd (hx : (i.exchanges s.build).length ≤ 1) (ok : Bool) (addr : Addr) (v : Byte) :
    (s.writeOne ok addr v).Ensures (State.OkAtTableEnd i s) :=
  hp.sequence_okAtTableEnd (State.guardArg_notOk (Result.ensures_next.mpr (State.memWrite_notOk hr addr v))) hx nofun
    Result.ensures_fault

theorem State.readModifyWrite_okAtTableEnd (hx : (i.exchanges s.build).length ≤ 2) (ok : Bool) (addr : Addr)
    (newByte : Byte → Byte) : (s.readModifyWrite ok addr newByte).Ensures (State.OkAtTableEnd i s) := by
  refine hp.sequence_okAtTableEnd (State.guardArg_notOk (Result.ensures_next.mpr (State.memRead_notOk hr addr))) hx ?_
    Result.ensures_fault
  simp [State.NotOk, hr]

theorem State.writePair_okAtTableEnd (hx : (i.exchanges s.build).length ≤ 3) (ok : Bool) (addrH addrL : Addr)
    (high : Byte) (low : Byte → Byte) :
    (s.writePair ok addrH addrL high low).Ensures (State.OkAtTableEnd i s) := by
  unfold State.writePair
  split <;>
    exact hp.sequence_okAtTableEnd (State.guardArg_notOk (by simp [State.NotOk, hr])) hx (by simp [State.NotOk, hr])
      Result.ensures_fault

end

section
variable {s t : State} {i : Instr}

theorem execRdreg_okAtTableEnd {addr : Addr} (hr : s.rsp = .absent) (hp : s.RunPoint (.rdreg addr))
    (hx : (Instr.exchanges s.build (.rdreg addr)).length ≤ 1) :
    (execRdreg addr s).Ensures (State.OkAtTableEnd (.rdreg addr) s) :=
  hp.sequence_okAtTableEnd (State.guardArg_notOk (Result.ensures_next.mpr (State.memRead_notOk hr addr))) hx nofun
    Result.ensures_fault

/-- RDANGLE's verdict is given with its four exchanges completed (R90). -/
theorem execRdangle_okAtTableEnd (hr : s.rsp = .absent) (hp : s.RunPoint .rdangle) :
    (execRdangle s).Ensures (State.OkAtTableEnd .rdangle s) := by
  refine hp.sequence_okAtTableEnd (by simp [State.NotOk, hr]) le_rfl (by simp [State.angleByte, State.NotOk, hr]) ?_
  split
  next h4 => exact fun _ _ _ _ => congrArg BitVec.toNat h4
  next => exact Result.ensures_fault

theorem execGdir_okAtTableEnd (hr : s.rsp = .absent) (hp : s.RunPoint .gdir) :
    (execGdir s).Ensures (State.OkAtTableEnd .gdir s) :=
  hp.sequence_okAtTableEnd (Result.ensures_next.mpr (State.memRead_notOk hr _)) le_rfl nofun Result.ensures_fault

theorem execZero_okAtTableEnd (hr : s.rsp = .absent) (hp : s.RunPoint .zero) :
    (execZero s).Ensures (State.OkAtTableEnd .zero s) :=
  hp.sequence_okAtTableEnd (by simp [State.NotOk, hr]) le_rfl nofun Result.ensures_fault

/-- PROG ends after its wait, with its one exchange completed (R139). -/
theorem execProg_okAtTableEnd (hr : s.rsp = .absent) (hp : s.RunPoint .prog) :
    (execProg s).Ensures (State.OkAtTableEnd .prog s) := by
  refine hp.sequence_okAtTableEnd (by simp [State.NotOk, hr]) le_rfl nofun ?_
  split
  next h1 => exact fun _ _ _ _ => congrArg BitVec.toNat h1
  next => exact Result.ensures_fault

theorem execBurst_okAtTableEnd : (execBurst s).Ensures (State.OkAtTableEnd .burst s) := by
  simp [execBurst, State.OkAtTableEnd]

/-- The operation in hand ends Ok at the end of its table only. -/
theorem exec_okAtTableEnd (hi : i.isWire = false) (hr : s.rsp = .absent) (hp : s.RunPoint i) :
    Result.Ensures (exec i s) (State.OkAtTableEnd i s) := by
  cases i with
  | wireRd | wireWr | wireZero | wireProg | wireBurst => cases hi
  | rdreg addr =>
    refine execRdreg_okAtTableEnd hr hp ?_
    simp only [Instr.exchanges]; split <;> simp
  | rdangle => exact execRdangle_okAtTableEnd hr hp
  | gdir => exact execGdir_okAtTableEnd hr hp
  | zero => exact execZero_okAtTableEnd hr hp
  | prog => exact execProg_okAtTableEnd hr hp
  | burst => exact execBurst_okAtTableEnd
  | guid | gabz | gswap | gzedge | gzwid | gzph => exact State.readOne_okAtTableEnd hr hp le_rfl _ _
  | gres => exact State.readPair_okAtTableEnd hr hp le_rfl _ _ _
  | gzpos => exact State.readPair_okAtTableEnd hr hp le_rfl _ _ fun h l => (zposUnpack h l).setWidth 32
  | wrreg | suid =>
    refine State.writeOne_okAtTableEnd hr hp ?_ _ _ _
    simp only [Instr.exchanges]; split <;> simp
  | sabz | sswap => exact State.readModifyWrite_okAtTableEnd hr hp le_rfl _ _ _
  | rmw | szedge | szwid | szph | sdir =>
    refine State.readModifyWrite_okAtTableEnd hr hp ?_ _ _ _
    simp only [Instr.exchanges]; split <;> simp
  | sres | szpos =>
    refine State.writePair_okAtTableEnd hr hp ?_ _ _ _ _ _
    simp only [Instr.exchanges, pairExchanges]; (repeat' split) <;> simp

/-- The state of an outstanding exchange, seen from the move that started it: the frame is the one its table lists at STEP. -/
theorem State.WaitInv.frame_of_table (h : t.WaitInv) (ha : s.SameAround t) (hi : s.inHand = .ok i) :
    ∃ x f, (i.exchanges s.build)[s.stepCount.toNat]? = some x ∧ t.xout = some f ∧ x.carriedBy s.build f := by
  obtain ⟨hbuild, -, -, -, -, hop, harg, hcount⟩ := ha
  obtain ⟨-, -, j, x, f, hj, hx, hf, hc, -⟩ := h
  rw [State.inHand, hop, harg] at hj
  obtain rfl : i = j := Except.ok.inj (hi.symm.trans hj)
  exact ⟨x, f, hbuild ▸ hcount ▸ hx, hf, hbuild ▸ hc⟩

end

/-- Settles O39: the frame of a started exchange is read off the invariant after the move, and an Ok end off the line's
shape. -/
theorem exchangesFollowTheTable : Obligations.ExchangesFollowTheTable := by
  intro i s t h hq hi ht
  have hwire := decodeOp_isWire hi
  obtain ⟨-, -, hfit, hseq⟩ := h
  rw [State.SeqInv, hq] at hseq
  obtain ⟨hb, hp⟩ := (State.runInv_iff hi).mp hseq
  obtain ⟨u, hu, -, hsafe⟩ := State.InLine.exec_safe ⟨hb, hp, hfit⟩ hq
  obtain rfl : u = t := Host.Outcome.next.inj (hu.symm.trans ht)
  refine ⟨fun hw => ?_, exec_okAtTableEnd hwire hb.rsp_absent hp u ht⟩
  rw [State.SeqInv, hw] at hsafe
  exact State.WaitInv.frame_of_table hsafe (exec_sameAround s hwire u ht) hi

end Sys2Proof.Machine
end

section
/-! PROOF. O15, O16: the wire commands. What the ideal device answers (R50), and what an exchange leaves unchanged whatever the
environment does (R45, R144). -/

namespace Sys2Proof

/-- The command codes of a build differ from each other (R7, R56). -/
theorem Config.opcs_distinct {c : Config} (h : c.opcs.Nodup) :
    (c.opcRd ≠ c.opcWr ∧ c.opcRd ≠ c.opcZero ∧ c.opcRd ≠ c.opcProg ∧ c.opcRd ≠ c.opcBurst) ∧
    (c.opcWr ≠ c.opcZero ∧ c.opcWr ≠ c.opcProg ∧ c.opcWr ≠ c.opcBurst) ∧
    (c.opcZero ≠ c.opcProg ∧ c.opcZero ≠ c.opcBurst) ∧ c.opcProg ≠ c.opcBurst := by
  simpa [Config.opcs] using h

namespace Machine

section
variable {s u : State} {cmd : Cmd} {addr : Addr} {tx : Byte}

-- The answers of the ideal device.

theorem State.idealReply_rd_known {x : Byte} (ha : addrOk addr = true) (hx : Memory.read s.dev addr.toNat = some x) :
    s.idealReply s.build.opcRd addr tx = .ok x := by
  simp [State.idealReply, ha, hx]

theorem State.idealReply_rd_unknown (ha : addrOk addr = true) (hx : Memory.read s.dev addr.toNat = none) :
    s.idealReply s.build.opcRd addr tx = .ok (Config.freeByte s.draws) := by
  simp [State.idealReply, ha, hx]

theorem State.idealReply_wr (hne : s.build.opcRd ≠ s.build.opcWr) (ha : addrOk addr = true) :
    s.idealReply s.build.opcWr addr tx = .ok tx := by
  simp [State.idealReply, ha, Ne.symm hne]

/-- The frame is one of the two commands that the ideal device acknowledges. -/
theorem State.idealReply_ack (hr : cmd ≠ s.build.opcRd) (hw : cmd ≠ s.build.opcWr)
    (hc : cmd = s.build.opcZero ∨ cmd = s.build.opcProg) : s.idealReply cmd addr tx = .ok 0x55 := by
  rw [State.idealReply, if_neg (hr ·.1), if_neg (hw ·.1)]
  split
  · rfl
  · next hz => rw [if_pos (hc.resolve_left hz)]; rfl

/-- The frame falls under "otherwise" (R50): no register of the device is read or written and no command is given. -/
theorem State.idealReply_otherwise (hreg : addrOk addr = true → cmd ≠ s.build.opcRd ∧ cmd ≠ s.build.opcWr)
    (hz : cmd ≠ s.build.opcZero) (hp : cmd ≠ s.build.opcProg) : s.idealReply cmd addr tx = .fail 0 := by
  rw [State.idealReply, if_neg fun h => (hreg h.2).1 h.1, if_neg fun h => (hreg h.2).2 h.1, if_neg hz, if_neg hp]

theorem State.answer_ideal (hd : s.pins.device = .ideal) : s.answer cmd addr tx = s.idealReply cmd addr tx := by
  simp [State.answer, hd]

/-- An exchange answered by the ideal device: a WR to one of its registers is stored, and a RD of a register that nothing has
written draws a free byte. -/
theorem State.exchange_ideal (hv : s.pins.xrspValid = true) (hd : s.pins.device = .ideal) (cmd : Cmd) (addr : Addr)
    (tx : Byte) : s.exchange cmd addr tx =
      { s.answeredBy (s.idealReply cmd addr tx) with
        dev := if cmd = s.build.opcWr ∧ addrOk addr = true then Memory.write s.dev addr.toNat tx else s.dev
        draws := if cmd = s.build.opcRd ∧ addrOk addr = true ∧ Memory.read s.dev addr.toNat = none then s.draws + 1
          else s.draws } := by
  rw [State.exchange_eq_answeredWith cmd addr tx hv, State.answeredWith, State.respond_eq_answeredBy]
  simp [State.served, State.answer_ideal hd, hd, State.answeredBy]

/-- An exchange that neither reads nor writes a register of the ideal device changes nothing but by its answer. -/
theorem State.exchange_ideal_of_no_register (hv : s.pins.xrspValid = true) (hd : s.pins.device = .ideal)
    (hreg : addrOk addr = true → cmd ≠ s.build.opcRd ∧ cmd ≠ s.build.opcWr) :
    s.exchange cmd addr tx = s.answeredBy (s.idealReply cmd addr tx) := by
  rw [State.exchange_ideal hv hd, if_neg fun h => (hreg h.2).2 h.1, if_neg fun h => (hreg h.2.1).1 h.1]
  rfl

/-- The ideal device acknowledges a command and keeps its registers (R50, R145). -/
theorem State.exchange_ideal_ack (hv : s.pins.xrspValid = true) (hd : s.pins.device = .ideal) (hr : cmd ≠ s.build.opcRd)
    (hw : cmd ≠ s.build.opcWr) (hc : cmd = s.build.opcZero ∨ cmd = s.build.opcProg) :
    s.exchange cmd addr tx = s.answeredBy (.ok 0x55) := by
  rw [State.exchange_ideal_of_no_register hv hd fun _ => ⟨hr, hw⟩, State.idealReply_ack hr hw hc]

theorem State.exchange_ideal_otherwise (hv : s.pins.xrspValid = true) (hd : s.pins.device = .ideal)
    (hreg : addrOk addr = true → cmd ≠ s.build.opcRd ∧ cmd ≠ s.build.opcWr) (hz : cmd ≠ s.build.opcZero)
    (hp : cmd ≠ s.build.opcProg) : s.exchange cmd addr tx = s.answeredBy (.fail 0) := by
  rw [State.exchange_ideal_of_no_register hv hd hreg, State.idealReply_otherwise hreg hz hp]

-- What an exchange leaves unchanged.

/-- An exchange does not touch the command states: only the two commands do (R138, R140). -/
theorem State.exchange_cmdStates (s : State) (cmd : Cmd) (addr : Addr) (tx : Byte) :
    (s.exchange cmd addr tx).zeroState = s.zeroState ∧ (s.exchange cmd addr tx).progState = s.progState := by
  rcases s.exchange_cases cmd addr tx with ⟨-, heq⟩ | ⟨-, r, dev, draws, heq, -⟩ <;> rw [heq] <;> exact ⟨rfl, rfl⟩

/-- A register reads after an exchange as before, but for the one a WR stores to, and unless the frame is neither a RD nor a WR
and a device that need not be ideal acted on it. -/
theorem State.exchange_read_dev (s : State) (cmd : Cmd) (addr : Addr) (tx : Byte) (n : Nat) :
    Memory.read (s.exchange cmd addr tx).dev n = Memory.read s.dev n ∨
    (cmd = s.build.opcWr ∧ n = addr.toNat ∧ Memory.read (s.exchange cmd addr tx).dev n = some tx) ∨
    (cmd ≠ s.build.opcRd ∧ cmd ≠ s.build.opcWr ∧ s.pins.xrspValid = true ∧ s.pins.device = .acts ∧
      Memory.read (s.exchange cmd addr tx).dev n = none) := by
  rcases s.exchange_cases cmd addr tx with ⟨-, heq⟩ | ⟨hv, r, dev, draws, heq, hdev, -⟩ <;> rw [heq]
  · exact .inl rfl
  · rcases hdev with rfl | ⟨hw, -, rfl⟩ | ⟨hr, hw, hd, rfl⟩
    · exact .inl rfl
    · by_cases hn : n = addr.toNat
      · exact .inr (.inl ⟨hw, hn, by rw [hn]; exact Memory.read_write_same _ _ _⟩)
      · exact .inl (Memory.read_write_other _ _ hn)
    · exact .inr (.inr ⟨hr, hw, hv, hd, rfl⟩)

/-- A frame that stores nothing leaves every register to read as before, or makes the device forget. -/
theorem State.exchange_read_dev_of_ne_wr (hw : cmd ≠ s.build.opcWr) (n : Nat) :
    Memory.read (s.exchange cmd addr tx).dev n = Memory.read s.dev n ∨
    (s.pins.xrspValid = true ∧ s.pins.device = .acts ∧ Memory.read (s.exchange cmd addr tx).dev n = none) := by
  rcases s.exchange_read_dev cmd addr tx n with h | ⟨hc, -⟩ | ⟨-, -, h⟩
  · exact .inl h
  · exact absurd hc hw
  · exact .inr h

/-- What no exchange and no answer to one changes: the build, the request latch, the working registers, RSP, the pins and their
schedule. -/
theorem State.WaitsOrAnswered.keeps (h : s.WaitsOrAnswered u) :
    u.build = s.build ∧ u.reqOp = s.reqOp ∧ u.reqArg = s.reqArg ∧ u.tmp = s.tmp ∧ u.wdh = s.wdh ∧ u.wdl = s.wdl ∧
    u.composite = s.composite ∧ u.crcRx = s.crcRx ∧ u.crc = s.crc ∧ u.rsp = s.rsp ∧ u.pins = s.pins ∧ u.env = s.env := by
  rcases h with rfl | ⟨dev, draws, r, z, p, rfl⟩ <;> exact ⟨rfl, rfl, rfl, rfl, rfl, rfl, rfl, rfl, rfl, rfl, rfl, rfl⟩

end

/-- Settles O15: the answer follows the command code and the address, and so does what the device keeps. -/
theorem idealDeviceAnswers : Obligations.IdealDeviceAnswers := by
  intro s a b hok hv hd
  obtain ⟨⟨hrw, hrz, hrp, hrb⟩, ⟨hwz, hwp, hwb⟩, ⟨-, hzb⟩, hpb⟩ := Config.opcs_distinct hok.1
  have haddr : addrOk a = true ↔ a ≤ 0x1FF := addrOk_iff a
  refine ⟨fun x ha hx => congrArg Host.Outcome.next (?_ : s.exchange s.build.opcRd a b = _),
    fun ha hx => ⟨Config.freeByte s.draws, congrArg Host.Outcome.next (?_ : s.exchange s.build.opcRd a b = _)⟩,
    fun ha => congrArg Host.Outcome.next (?_ : s.exchange s.build.opcWr a b = _),
    fun ha => ⟨congrArg Host.Outcome.next (?_ : s.exchange s.build.opcRd a b = _),
      congrArg Host.Outcome.next (?_ : s.exchange s.build.opcWr a b = _)⟩,
    congrArg Host.Outcome.next ?_, congrArg Host.Outcome.next ?_,
    congrArg Host.Outcome.next (?_ : s.exchange s.build.opcBurst a b = _)⟩
  · rw [State.exchange_ideal hv hd, State.idealReply_rd_known (haddr.mpr ha) hx]
    simp [State.answeredBy, hrw, hx]
  · rw [State.exchange_ideal hv hd, State.idealReply_rd_unknown (haddr.mpr ha) hx]
    simp [State.answeredBy, hrw, hx, haddr.mpr ha]
  · rw [State.exchange_ideal hv hd, State.idealReply_wr hrw (haddr.mpr ha)]
    simp [State.answeredBy, Ne.symm hrw, haddr.mpr ha]
  · exact State.exchange_ideal_otherwise hv hd (fun h => absurd (haddr.mp h) ha) hrz hrp
  · exact State.exchange_ideal_otherwise hv hd (fun h => absurd (haddr.mp h) ha) hwz hwp
  · rw [State.exchange_ideal_ack hv hd hrz.symm hwz.symm (.inl rfl), if_pos hv, State.answer_ideal hd,
      State.idealReply_ack hrz.symm hwz.symm (.inl rfl), CmdState.answered_eq_after]
  · rw [State.exchange_ideal_ack hv hd hrp.symm hwp.symm (.inr rfl), if_pos hv, State.answer_ideal hd,
      State.idealReply_ack hrp.symm hwp.symm (.inr rfl), CmdState.answered_eq_after]
  · exact State.exchange_ideal_otherwise hv hd (fun _ => ⟨hrb.symm, hwb.symm⟩) hzb.symm hpb.symm

/-- Settles O16: every wire command is an exchange, and of what an exchange does the command code decides which clause it
falls under. -/
theorem wireCommandFrame : Obligations.WireCommandFrame := by
  intro s t a b i hi hok ht
  obtain ⟨⟨hrw, -⟩, ⟨hwz, hwp, hwb⟩, -⟩ := Config.opcs_distinct hok.1
  have hwire : i.isWire = true := by rcases hi with rfl | rfl | rfl | rfl | rfl <;> rfl
  obtain ⟨hbuild, hop, harg, htmp, hwdh, hwdl, hcomposite, hcrcRx, hcrc, hrsp, hpins, henv⟩ :=
    (exec_wire_waitsOrAnswered hwire ht).keeps
  refine ⟨hbuild, hop, harg, htmp, hwdh, hwdl, hcomposite, hcrcRx, hcrc, hrsp, hpins, henv, ?_⟩
  rcases hi with rfl | rfl | rfl | rfl | rfl <;> obtain rfl := Host.Outcome.next.inj ht
  · obtain ⟨hz, hp⟩ := s.exchange_cmdStates s.build.opcRd a b
    refine ⟨fun _ => hz, fun _ => hp, fun n => ?_⟩
    rcases s.exchange_read_dev s.build.opcRd a b n with h | ⟨hc, -⟩ | ⟨hc, -⟩
    · exact .inl h
    · exact absurd hc hrw
    · exact absurd rfl hc
  · obtain ⟨hz, hp⟩ := s.exchange_cmdStates s.build.opcWr a b
    refine ⟨fun _ => hz, fun _ => hp, fun n => ?_⟩
    rcases s.exchange_read_dev s.build.opcWr a b n with h | ⟨-, h⟩ | ⟨-, hc, -⟩
    · exact .inl h
    · exact .inr (.inl ⟨rfl, h⟩)
    · exact absurd rfl hc
  · obtain ⟨-, hp⟩ := s.exchange_cmdStates s.build.opcZero a b
    exact ⟨fun h => absurd rfl h, fun _ => hp, fun n =>
      (State.exchange_read_dev_of_ne_wr hwz.symm n).imp_right fun h => .inr ⟨.inl rfl, h⟩⟩
  · obtain ⟨hz, -⟩ := s.exchange_cmdStates s.build.opcProg a b
    exact ⟨fun _ => hz, fun h => absurd rfl h, fun n =>
      (State.exchange_read_dev_of_ne_wr hwp.symm n).imp_right fun h => .inr ⟨.inr (.inl rfl), h⟩⟩
  · obtain ⟨hz, hp⟩ := s.exchange_cmdStates s.build.opcBurst a b
    exact ⟨fun _ => hz, fun _ => hp, fun n =>
      (State.exchange_read_dev_of_ne_wr hwb.symm n).imp_right fun h => .inr ⟨.inr (.inr rfl), h⟩⟩

end Machine
end Sys2Proof
end

section
/-! PROOF. O40, O41, O42: the encoder and the decoder are inverse to each other (R53, R55, R57, R58). A frame is its three fields
and a request its op code and argument; of the argument the encoder keeps the bits of the instruction's form. -/

namespace Sys2Proof

-- The argument forms (R57): what the encoder packs from the operands is the argument with the ignored bits cleared.

theorem argA_extractLsb' (arg : Word) : argA (arg.extractLsb' 0 12) = arg &&& 0x00000FFF#32 := by
  ext j hj; interval_cases j <;> simp [argA]

theorem argAd_extractLsb' (arg : Word) :
    argAd (arg.extractLsb' 8 12) (arg.extractLsb' 0 8) = arg &&& 0x000FFFFF#32 := by
  ext j hj; interval_cases j <;> simp [argAd]

theorem argMad_extractLsb' (arg : Word) :
    argMad (arg.extractLsb' 8 12) (arg.extractLsb' 20 8) (arg.extractLsb' 0 8) = arg &&& 0x0FFFFFFF#32 := by
  ext j hj; interval_cases j <;> simp [argMad]

theorem and_fullForm (arg : Word) : arg &&& 0xFFFFFFFF#32 = arg := BitVec.and_allOnes

/-- Every instruction comes back from its code: a frame by its command code, a request by its op code. -/
theorem decode_encode {c : Config} (h : c.opcs.Nodup) (i : Instr) : decode c (encode c i) = .ok i := by
  have hframe := decodeFrame_packFrame c h
  cases i with
  | wireRd addr tx => exact (hframe addr tx).1
  | wireWr addr tx => exact (hframe addr tx).2.1
  | wireZero addr tx => exact (hframe addr tx).2.2.1
  | wireProg addr tx => exact (hframe addr tx).2.2.2.1
  | wireBurst addr tx => exact (hframe addr tx).2.2.2.2
  | rdreg | wrreg | rmw => exact (decodeRequest_packRequest _ _).trans (by simp [decodeOp])
  | rdangle | guid | gres | gabz | gswap | gzpos | gzedge | gzwid | gzph | gdir | zero | prog | burst
  | suid | sres | sabz | sswap | szpos | szedge | szwid | szph | sdir => exact decodeRequest_packRequest _ _

/-- The code of a decoded frame is that frame. -/
theorem encode_of_decodeFrame {c : Config} {f : Frame} {i : Instr} (h : decodeFrame c f = .ok i) :
    encode c i = .frame f := by
  unfold decodeFrame at h
  split_ifs at h with hcmd hcmd hcmd hcmd hcmd <;> cases h <;> rw [encode, ← hcmd, packFrame_fields]

/-- The code of a decoded request is the request with the ignored bits of its argument cleared. -/
theorem encode_of_decodeOp {op : Byte} {arg : Word} {i : Instr} (h : decodeOp op arg = .ok i) (c : Config) :
    encode c i = .request (packRequest op (arg &&& formMask i)) := by
  unfold decodeOp at h
  split at h <;> cases h
  case h_1 => rw [encode, argA_extractLsb']; rfl
  case h_2 => rw [encode, argAd_extractLsb']; rfl
  case h_3 => rw [encode, argMad_extractLsb']; rfl
  all_goals simp [encode, formMask, and_fullForm]

end Sys2Proof

namespace Sys2Proof.Machine

/-- Settles O40: every instruction comes back from its code, whatever its operands. -/
theorem decodeOfEncodeIsTheInstruction : Obligations.DecodeOfEncodeIsTheInstruction :=
  fun _ i h => decode_encode h i

/-- Settles O41: a frame is its three fields, and a request its op code and the argument bits of its form. -/
theorem encodeOfDecodeIsTheWord : Obligations.EncodeOfDecodeIsTheWord := by
  refine fun c i => ⟨fun f hf => encode_of_decodeFrame hf, fun w hw => ?_⟩
  exact ⟨_, encode_of_decodeOp hw c, requestOp_packRequest _ _, requestArg_packRequest _ _⟩

/-- Settles O42: each of the ten words is evaluated. -/
theorem writtenOutWordsDecode : Obligations.WrittenOutWordsDecode := by
  unfold Obligations.WrittenOutWordsDecode; decide

end Sys2Proof.Machine
end

section
/-! PROOF. O43 to O47: the codec's arithmetic (R60 to R67). A bitfield is a run of adjacent bits; a byte is taken apart and put
together by its runs, and the parts of the resolution and of the zero position code are read through two of them. -/

namespace Sys2Proof.Machine

/-- The field is the run of `width` adjacent bits from bit `shift` up (R60), in one byte. -/
structure Bitfield.IsRun (f : Bitfield) (shift width : Nat) : Prop where
  shift_eq : f.shift = shift
  mask_eq  : f.mask = BitVec.ofNat 8 ((2 ^ width - 1) * 2 ^ shift)
  fits     : shift + width ≤ 8

/-- Settles O44: the table is closed, and every row is evaluated. -/
theorem bitfieldTable : Obligations.BitfieldTable := by
  unfold Obligations.BitfieldTable; decide

section
variable {f : Bitfield} {shift width : Nat} {b v : Byte}

/-- Inserting keeps the bits outside the mask, whatever the mask (R60, R79). -/
theorem Bitfield.insert_and_not_mask (f : Bitfield) (b v : Byte) : f.insert b v &&& ~~~f.mask = b &&& ~~~f.mask := by
  ext j hj
  simp only [Bitfield.insert, Bitfield.place, rmwByte, BitVec.getElem_and, BitVec.getElem_or, BitVec.getElem_not]
  cases f.mask[j] <;> simp

/-- A value that fits has no bit at or above the width. -/
theorem getLsbD_eq_false_of_fits (hv : v.toNat < 2 ^ width) {j : Nat} (hj : width ≤ j) : v.getLsbD j = false :=
  Nat.testBit_lt_two_pow (hv.trans_le (Nat.pow_le_pow_right two_pos hj))

variable (h : f.IsRun shift width)
include h

theorem Bitfield.IsRun.getLsbD_mask (j : Nat) : f.mask.getLsbD j = decide (shift ≤ j ∧ j < shift + width) := by
  have hfits := h.fits
  rw [h.mask_eq, BitVec.getLsbD_ofNat, Nat.testBit_mul_two_pow, Nat.testBit_two_pow_sub_one, ← Bool.decide_and,
    ← Bool.decide_and, decide_eq_decide]
  omega

theorem Bitfield.IsRun.getLsbD_extract (j : Nat) :
    (f.extract b).getLsbD j = (b.getLsbD (shift + j) && decide (j < width)) := by
  rw [Bitfield.extract, BitVec.getLsbD_ushiftRight, BitVec.getLsbD_and, h.getLsbD_mask, h.shift_eq]
  simp

/-- A value that fits is moved to its place whole. -/
theorem Bitfield.IsRun.place_eq (hv : v.toNat < 2 ^ width) : f.place v = v <<< shift := by
  refine BitVec.eq_of_getLsbD_eq fun j hj => ?_
  rw [Bitfield.place, BitVec.getLsbD_and, h.getLsbD_mask, h.shift_eq, BitVec.getLsbD_shiftLeft]
  by_cases hlow : j < shift
  · simp [hlow]
  by_cases hhigh : j < shift + width
  · simp [hhigh, Nat.le_of_not_lt hlow]
  · simp [getLsbD_eq_false_of_fits hv (show width ≤ j - shift by omega)]

/-- Extract after insert gives the value (R60). -/
theorem Bitfield.IsRun.extract_insert (b : Byte) (hv : v.toNat < 2 ^ width) : f.extract (f.insert b v) = v := by
  refine BitVec.eq_of_getLsbD_eq fun j hj => ?_
  have hfits := h.fits
  rw [h.getLsbD_extract, Bitfield.insert, rmwByte, h.place_eq hv, BitVec.getLsbD_or, BitVec.getLsbD_and,
    BitVec.getLsbD_not, h.getLsbD_mask, BitVec.getLsbD_shiftLeft]
  by_cases hw : j < width
  · simp [hw, show shift + j < 8 by omega]
  · simp [hw, getLsbD_eq_false_of_fits hv (Nat.le_of_not_lt hw)]

/-- The extract of a run that ends at bit 7 is the byte without the bits below the run. -/
theorem Bitfield.IsRun.toNat_extract (htop : shift + width = 8) (b : Byte) :
    (f.extract b).toNat = b.toNat / 2 ^ shift := by
  have hextract : f.extract b = b >>> shift := BitVec.eq_of_getLsbD_eq fun j hj => by
    rw [h.getLsbD_extract, BitVec.getLsbD_ushiftRight]
    by_cases hw : j < width
    · simp [hw]
    · simp [hw, show 8 ≤ shift + j by omega]
  rw [hextract, BitVec.toNat_ushiftRight, Nat.shiftRight_eq_div_pow]

end

/-- Settles O43: both laws hold of every run. -/
theorem bitfieldInsertAndExtract : Obligations.BitfieldInsertAndExtract := by
  intro shift width b v hfits hv f
  have hrun : f.IsRun shift width := ⟨rfl, rfl, hfits⟩
  exact ⟨hrun.extract_insert b hv, f.insert_and_not_mask b v⟩

-- A code of two bytes: its high bits in the high byte, its low bits in the run at the top of the low byte (R63 to R66).

section
variable {n k : Nat}

/-- A high byte over a low part of `k` bits. -/
theorem toNat_shiftLeft_or (hn : n = 8 + k) (hi : Byte) {lo : Byte} (hlo : lo.toNat < 2 ^ k) :
    ((hi.setWidth n <<< k) ||| lo.setWidth n).toNat = hi.toNat * 2 ^ k + lo.toNat := by
  have hsize : 2 ^ n = 2 ^ 8 * 2 ^ k := by rw [hn, pow_add]
  have hhi : hi.toNat * 2 ^ k < 2 ^ n := hsize ▸ Nat.mul_lt_mul_of_pos_right hi.isLt (Nat.two_pow_pos k)
  have hhi' : hi.toNat < 2 ^ n := hi.isLt.trans_le (Nat.pow_le_pow_right two_pos (by omega))
  have hlo' : lo.toNat < 2 ^ n := lo.isLt.trans_le (Nat.pow_le_pow_right two_pos (by omega))
  rw [BitVec.toNat_or, BitVec.toNat_shiftLeft, BitVec.toNat_setWidth, BitVec.toNat_setWidth, Nat.mod_eq_of_lt hhi',
    Nat.mod_eq_of_lt hlo', Nat.shiftLeft_eq, Nat.mod_eq_of_lt hhi, ← Nat.shiftLeft_eq,
    ← Nat.shiftLeft_add_eq_or_of_lt hlo, Nat.shiftLeft_eq]

theorem toNat_highByte (hn : n = 8 + k) (s : BitVec n) : (s.extractLsb' k 8).toNat = s.toNat / 2 ^ k := by
  have hsize : 2 ^ n = 2 ^ k * 2 ^ 8 := by rw [hn, pow_add, mul_comm]
  rw [BitVec.extractLsb'_toNat, Nat.shiftRight_eq_div_pow, Nat.mod_eq_of_lt (Nat.div_lt_of_lt_mul (hsize ▸ s.isLt))]

theorem toNat_lowPart (hk : k ≤ 8) (s : BitVec n) : ((s.extractLsb' 0 k).setWidth 8).toNat = s.toNat % 2 ^ k := by
  rw [BitVec.toNat_setWidth_of_le hk, BitVec.extractLsb'_toNat, Nat.shiftRight_zero]

theorem toNat_lowPart_lt (hk : k ≤ 8) (s : BitVec n) : ((s.extractLsb' 0 k).setWidth 8).toNat < 2 ^ k :=
  toNat_lowPart hk s ▸ Nat.mod_lt _ (Nat.two_pow_pos k)

/-- The high byte and the low part of a code make the code. -/
theorem highByte_or_lowPart (hn : n = 8 + k) (hk : k ≤ 8) (s : BitVec n) :
    ((s.extractLsb' k 8).setWidth n <<< k) ||| ((s.extractLsb' 0 k).setWidth 8).setWidth n = s := by
  refine BitVec.eq_of_toNat_eq ?_
  rw [toNat_shiftLeft_or hn _ (toNat_lowPart_lt hk s), toNat_highByte hn, toNat_lowPart hk, Nat.div_add_mod']

/-- The low byte of a code: the low part above the bits that are kept. -/
theorem Bitfield.IsRun.insert_lowPart {f : Bitfield} {shift : Nat} (h : f.IsRun shift k) (s : BitVec n) (old : Byte) :
    f.insert old ((s.extractLsb' 0 k).setWidth 8) =
      BitVec.ofNat 8 (s.toNat % 2 ^ k * 2 ^ shift) ||| (old &&& ~~~f.mask) := by
  have hk : k ≤ 8 := (Nat.le_add_left k shift).trans h.fits
  rw [Bitfield.insert, rmwByte, BitVec.or_comm, h.place_eq (toNat_lowPart_lt hk s)]
  congr 1
  refine BitVec.eq_of_toNat_eq ?_
  rw [BitVec.toNat_shiftLeft, toNat_lowPart hk, Nat.shiftLeft_eq, BitVec.toNat_ofNat]

end

theorem fieldResLo_isRun : fieldResLo.IsRun 2 6 := ⟨rfl, rfl, by decide⟩

theorem fieldZposLo_isRun : fieldZposLo.IsRun 4 4 := ⟨rfl, rfl, by decide⟩

/-- The two bytes of a stored resolution give it back (R63, R64). -/
theorem resUnpack_resHigh_resLow (s : BitVec 14) (old : Byte) : resUnpack (resHigh s) (resLow s old) = s := by
  rw [resUnpack, resLow, fieldResLo_isRun.extract_insert old (toNat_lowPart_lt (k := 6) (by decide) s)]
  exact highByte_or_lowPart (k := 6) rfl (by decide) s

/-- The two bytes of a zero position code give it back (R65, R66). -/
theorem zposUnpack_zposHigh_zposLow (z : BitVec 12) (old : Byte) : zposUnpack (zposHigh z) (zposLow z old) = z := by
  rw [zposUnpack, zposLow, fieldZposLo_isRun.extract_insert old (toNat_lowPart_lt (k := 4) (by decide) z)]
  exact highByte_or_lowPart (k := 4) rfl (by decide) z

/-- `s = {H, L[7:2]}` (R64). -/
theorem resUnpack_toNat (h l : Byte) : (resUnpack h l).toNat = h.toNat * 64 + l.toNat / 4 := by
  have hlow : (fieldResLo.extract l).toNat = l.toNat / 4 := fieldResLo_isRun.toNat_extract rfl l
  exact (toNat_shiftLeft_or (k := 6) rfl h (hlow ▸ Nat.div_lt_of_lt_mul l.isLt)).trans (hlow ▸ rfl)

/-- `z = {H, L[7:4]}` (R66). -/
theorem zposUnpack_toNat (h l : Byte) : (zposUnpack h l).toNat = h.toNat * 16 + l.toNat / 16 := by
  have hlow : (fieldZposLo.extract l).toNat = l.toNat / 16 := fieldZposLo_isRun.toNat_extract rfl l
  exact (toNat_shiftLeft_or (k := 4) rfl h (hlow ▸ Nat.div_lt_of_lt_mul l.isLt)).trans (hlow ▸ rfl)

/-- A legal resolution is stored as `ppr - 1` without loss (R63). -/
theorem pprStored_toNat {ppr : Word} (hlo : 1 ≤ ppr.toNat) (hhi : ppr.toNat ≤ 16384) :
    (pprStored ppr).toNat = ppr.toNat - 1 := by
  have hle : (1 : Word) ≤ ppr := BitVec.le_def.mpr hlo
  rw [pprStored, BitVec.toNat_setWidth, BitVec.toNat_sub_of_le hle]
  exact Nat.mod_eq_of_lt (show ppr.toNat - 1 < 2 ^ 14 by omega)

/-- `ppr = s + 1` does not wrap (R64). -/
theorem pprOf_toNat (h l : Byte) : (pprOf h l).toNat = (resUnpack h l).toNat + 1 := by
  have hlt := (resUnpack h l).isLt
  rw [pprOf, BitVec.toNat_add, BitVec.toNat_setWidth_of_le (by decide)]
  exact Nat.mod_eq_of_lt (show (resUnpack h l).toNat + 1 < 2 ^ 32 by omega)

/-- Settles O45: the stored resolution is `ppr - 1`, and its two bytes give it back. -/
theorem resolutionPacksAndUnpacks : Obligations.ResolutionPacksAndUnpacks := by
  refine ⟨fun ppr old hlo hhi => ?_, fun h l => ?_⟩
  · have hs := pprStored_toNat hlo hhi
    refine ⟨BitVec.eq_of_toNat_eq ?_, ?_, BitVec.eq_of_toNat_eq ?_, fieldResLo.insert_and_not_mask old _⟩
    · rw [resHigh, toNat_highByte (k := 6) rfl, hs, BitVec.toNat_ofNat]; omega
    · rw [← hs]; exact fieldResLo_isRun.insert_lowPart _ old
    · rw [pprOf_toNat, resUnpack_resHigh_resLow, hs]; omega
  · rw [pprOf_toNat, resUnpack_toNat]; omega

/-- Settles O46: a code's two bytes give it back, and the low one keeps the bits below its run. -/
theorem zeroCodePacksAndUnpacks : Obligations.ZeroCodePacksAndUnpacks := by
  refine ⟨fun z old => ⟨BitVec.eq_of_toNat_eq ?_, fieldZposLo_isRun.insert_lowPart z old,
    zposUnpack_zposHigh_zposLow z old, fieldZposLo.insert_and_not_mask old _⟩, zposUnpack_toNat⟩
  rw [zposHigh, toNat_highByte (k := 4) rfl, BitVec.toNat_ofNat]; omega

-- Degrees to zero code (R67).

section
variable {S : Nat} (hpos : 0 < S)
include hpos

/-- The quotient rounded half up is the integer nearest to `x / S`, a tie going up, for an even `S`. -/
theorem nearest_div_half_up (heven : 2 ∣ S) (x : Nat) :
    2 * S * ((x + S / 2) / S) ≤ 2 * x + S ∧ 2 * x + S < 2 * S * ((x + S / 2) / S + 1) := by
  have hlow := Nat.mul_div_le (x + S / 2) S
  have hhigh := Nat.lt_mul_div_succ (x + S / 2) hpos
  rw [mul_assoc, mul_assoc]
  omega

theorem div_half_up_le {d : Nat} (hd : d ≤ S) : (d * 4095 + S / 2) / S ≤ 4095 :=
  Nat.le_of_lt_succ (Nat.div_lt_of_lt_mul (by omega))

theorem div_half_up_self : (S * 4095 + S / 2) / S = 4095 := by
  rw [Nat.mul_add_div hpos, Nat.div_eq_of_lt (Nat.div_lt_self hpos one_lt_two)]

end

theorem degScale_pos (n : Nat) : 0 < degScale n := Nat.mul_pos (by decide) (Nat.two_pow_pos n)

theorem two_dvd_degScale (n : Nat) : 2 ∣ degScale n := Dvd.dvd.mul_right (by decide) (2 ^ n)

/-- S as the statements write it. -/
theorem degScale_cast (n : Nat) : (degScale n : Int) = 360 * 2 ^ n := by simp [degScale]

/-- A signed argument that is not negative is its unsigned value. -/
theorem toInt_eq_toNat_of_nonneg {d : Word} (h : 0 ≤ d.toInt) : d.toInt = d.toNat := by
  have hcond := d.toInt_eq_toNat_cond
  have hlt := d.isLt
  split at hcond <;> omega

/-- SZPOS accepts 0 to S (R67, R71). -/
theorem degOk_iff (n : Nat) (d : Word) : degOk n d = true ↔ 0 ≤ d.toInt ∧ d.toInt ≤ 360 * 2 ^ n := by
  simp [degOk, degScale_cast]

section
variable {n : Nat} {d : Word} (hnonneg : 0 ≤ d.toInt) (hle : d.toInt ≤ 360 * 2 ^ n)
include hnonneg hle

theorem toNat_le_degScale : d.toNat ≤ degScale n := by
  rw [← degScale_cast, toInt_eq_toNat_of_nonneg hnonneg] at hle
  exact Int.ofNat_le.mp hle

/-- The code of an accepted argument fits 12 bits (R67). -/
theorem degToCode_toNat : (degToCode n d).toNat = (d.toNat * 4095 + degScale n / 2) / degScale n := by
  have hcode := div_half_up_le (degScale_pos n) (toNat_le_degScale hnonneg hle)
  rw [degToCode, toInt_eq_toNat_of_nonneg hnonneg, Int.toNat_natCast, BitVec.toNat_ofNat]
  exact Nat.mod_eq_of_lt (by omega)

end

/-- Settles O47: the code is the quotient rounded half up, at most 4095 since D is at most S. -/
theorem zeroCodeIsRoundedHalfAwayFromZero : Obligations.ZeroCodeIsRoundedHalfAwayFromZero := by
  refine ⟨degOk_iff, by decide, by decide, fun n d hnonneg hle => ?_⟩
  have hcode := degToCode_toNat hnonneg hle
  have hpos := degScale_pos n
  obtain ⟨hlow, hhigh⟩ := nearest_div_half_up hpos (two_dvd_degScale n) (d.toNat * 4095)
  rw [← hcode, ← mul_assoc] at hlow hhigh
  refine ⟨hcode, ?_, hlow, hhigh, fun h0 => ?_, fun hS => ?_⟩
  · exact hcode ▸ div_half_up_le hpos (toNat_le_degScale hnonneg hle)
  · subst h0
    rw [hcode]
    exact Nat.div_eq_of_lt (by simp; omega)
  · have hd : d.toNat = degScale n := by
      rw [← degScale_cast, toInt_eq_toNat_of_nonneg hnonneg] at hS
      exact Int.ofNat_inj.mp hS
    rw [hcode, hd, div_half_up_self hpos]

end Sys2Proof.Machine
end

section
/-! PROOF. O10: the response ports and the transceiver request port (R26, R59, R147). -/

namespace Sys2Proof.Machine

theorem State.xreqValid_iff {s : State} : s.xreqValid = true ↔ s.seq = .waitX := by
  unfold State.xreqValid; cases s.seq <;> simp

theorem State.xreqFrame_waitX {s : State} (hq : s.seq = .waitX) : s.xreqFrame = s.xout :=
  if_pos (State.xreqValid_iff.mpr hq)

theorem State.xreqFrame_of_ne {s : State} (hq : s.seq ≠ .waitX) : s.xreqFrame = none :=
  if_neg (mt State.xreqValid_iff.mp hq)

section
variable {r : Rsp}

theorem Rsp.valid_iff : r.valid = true ↔ r ≠ .absent := by cases r <;> simp [Rsp.valid]

theorem Rsp.errPort_eq_none_iff : r.errPort = none ↔ r = .absent := by cases r <;> simp [Rsp.errPort]

theorem Rsp.infoPort_eq_some_iff {n : Nat} : r.infoPort = some n ↔ r = .err (.transport n) := by
  cases r with
  | absent | ok => simp [Rsp.infoPort]
  | err e => cases e <;> simp [Rsp.infoPort]

theorem Rsp.valPort_eq_some_iff {v : Word} : r.valPort = some v ↔ r = .ok v ∨ r = .err (.checksumMismatch v) := by
  cases r with
  | absent | ok => simp [Rsp.valPort]
  | err e => cases e <;> simp [Rsp.valPort]

end

/-- Settles O10: each port is read off SEQ or RSP, and the codes are those of the table. -/
theorem portsFollowTheState : Obligations.PortsFollowTheState :=
  ⟨fun _ => ⟨State.xreqValid_iff, State.xreqFrame_waitX, State.xreqFrame_of_ne⟩,
    fun _ => ⟨Rsp.valid_iff, Rsp.errPort_eq_none_iff, fun _ => Rsp.infoPort_eq_some_iff,
      fun _ => Rsp.valPort_eq_some_iff⟩,
    fun _ _ => ⟨rfl, rfl, rfl, rfl, rfl, rfl, rfl⟩⟩

end Sys2Proof.Machine
end

section
/-! PROOF. O36, O59: the start of an operation (R71, R143, R153). An operation other than BURST checks its argument there and only
there, and the check is `Instr.wellFormed`: it is refused, or it starts the first exchange of its table. -/

namespace Sys2Proof

section
variable {c : Config} {i : Instr}

theorem addrMax_lt_iff {addr : Addr} : Config.addrMax < addr ↔ 0x1FF < addr.toNat := BitVec.lt_def

/-- The operations that are not well-formed: an argument out of its range of R71, and BURST. -/
theorem Instr.wellFormed_eq_false_iff (hi : i.isWire = false) :
    i.wellFormed c = false ↔ Machine.badArgument c i ∨ i = .burst := by
  cases i with
  | wireRd | wireWr | wireZero | wireProg | wireBurst => cases hi
  | sres | szpos => simp [Instr.wellFormed, Machine.badArgument, imp_iff_not_or]
  | rdreg | wrreg | rmw => simp [Instr.wellFormed, Machine.badArgument, addrMax_lt_iff]
  | suid | szedge | szwid | szph | sdir
  | rdangle | guid | gres | gabz | sabz | gswap | sswap | gzpos | gzedge | gzwid | gzph | gdir | zero | prog | burst =>
    simp [Instr.wellFormed, Machine.badArgument]

/-- Only an operation has an argument to refuse. -/
theorem Machine.badArgument_isWire (h : Machine.badArgument c i) : i.isWire = false := by
  cases i with
  | wireRd | wireWr | wireZero | wireProg | wireBurst => cases h
  | _ => rfl

/-- An operation that is not well-formed has no exchanges. -/
theorem Instr.exchanges_of_not_wellFormed (hi : i.isWire = false) (h : i.wellFormed c = false) : i.exchanges c = [] := by
  cases i with
  | wireRd | wireWr | wireZero | wireProg | wireBurst => cases hi
  | rdangle | guid | gres | gabz | sabz | gswap | sswap | gzpos | gzedge | gzwid | gzph | gdir | zero | prog => cases h
  | burst => rfl
  | rdreg | wrreg | rmw | suid | szedge | szwid | szph | sdir => exact if_neg (of_decide_eq_false h)
  | sres | szpos => exact if_neg (by simpa [Instr.wellFormed] using h)

end

namespace Machine

/-- `t` is a state in which the first exchange of the table of operation `i` has been started from `s`. -/
def State.Starts (i : Instr) (s t : State) : Prop :=
  ∃ x f, (i.exchanges s.build).head? = some x ∧ x.carriedBy s.build f ∧ t.seq = .waitX ∧ t.xout = some f

/-- `r` is the start of operation `i` under the check `ok`: refused, or the first exchange of its table is started. -/
def State.StartsIf (ok : Bool) (i : Instr) (s : State) (r : Result) : Prop :=
  ∃ t, r = s.guardArg ok (.next t) ∧ (ok = true → State.Starts i s t)

section
variable {s : State} {i : Instr}

/-- An exchange started from `u`, which may differ from `s` in the registers the operation uses. -/
theorem State.starts_issue (u : State) {x : Xchg} {cmd : Cmd} {addr : Addr} {tx : Byte}
    (hx : (i.exchanges s.build).head? = some x) (hf : x.carriedBy s.build (packFrame cmd addr tx)) :
    State.Starts i s (u.issue cmd addr tx) :=
  ⟨x, _, hx, hf, rfl, rfl⟩

theorem State.starts_memRead {addr : Addr} (hx : (i.exchanges s.build).head? = some (.rd addr)) :
    State.Starts i s (s.memRead addr) :=
  State.starts_issue s hx rfl

theorem State.starts_memWrite {addr : Addr} (v : Byte) (hx : (i.exchanges s.build).head? = some (.wr addr)) :
    State.Starts i s (s.memWrite addr v) :=
  State.starts_issue s hx ⟨v, rfl⟩

section
variable (hs : s.AtStart)
include hs

theorem State.sequence_startsIf {ok : Bool} {t : State} (ht : ok = true → State.Starts i s t)
    (rest : List (Byte → Result)) (resume : Result) :
    s.StartsIf ok i (s.sequence (s.guardArg ok (.next t)) rest resume) :=
  ⟨t, State.sequence_atStart hs _ _ _, ht⟩

theorem State.readOne_startsIf {addr : Addr} (hx : (i.exchanges s.build).head? = some (.rd addr)) (value : Byte → Word) :
    s.StartsIf true i (s.readOne addr value) :=
  State.sequence_startsIf hs (fun _ => State.starts_memRead hx) _ _

theorem State.readPair_startsIf {addrH : Addr} (hx : (i.exchanges s.build).head? = some (.rd addrH)) (addrL : Addr)
    (value : Byte → Byte → Word) : s.StartsIf true i (s.readPair addrH addrL value) :=
  State.sequence_startsIf hs (fun _ => State.starts_memRead hx) _ _

theorem State.writeOne_startsIf {ok : Bool} {addr : Addr} (v : Byte)
    (hx : ok = true → (i.exchanges s.build).head? = some (.wr addr)) : s.StartsIf ok i (s.writeOne ok addr v) :=
  State.sequence_startsIf hs (fun hok => State.starts_memWrite v (hx hok)) _ _

theorem State.readModifyWrite_startsIf {ok : Bool} {addr : Addr} (newByte : Byte → Byte)
    (hx : ok = true → (i.exchanges s.build).head? = some (.rd addr)) :
    s.StartsIf ok i (s.readModifyWrite ok addr newByte) :=
  State.sequence_startsIf hs (fun hok => State.starts_memRead (hx hok)) _ _

/-- A two-register setter starts with the exchange RMW2_ORDER puts first (R124). -/
theorem State.writePair_startsIf {ok : Bool} {addrH addrL : Addr} (high : Byte) (low : Byte → Byte)
    (hx : ok = true → i.exchanges s.build = pairExchanges s.build addrH addrL) :
    s.StartsIf ok i (s.writePair ok addrH addrL high low) := by
  unfold State.writePair
  split
  next ho =>
    exact State.sequence_startsIf hs (fun hok => State.starts_memRead (by simp [hx hok, pairExchanges, ho])) _ _
  next ho =>
    exact State.sequence_startsIf hs
      (fun hok => State.starts_issue (x := .wr addrH) _ (by simp [hx hok, pairExchanges, ho]) ⟨high, rfl⟩) _ _

/-- Every operation but BURST starts under its check, and then with the first exchange of its table. -/
theorem exec_startsIf (hi : i.isWire = false) (hb : i ≠ .burst) :
    s.StartsIf (i.wellFormed s.build) i (exec i s) := by
  cases i with
  | wireRd | wireWr | wireZero | wireProg | wireBurst => cases hi
  | burst => exact absurd rfl hb
  | rdreg addr =>
    refine State.sequence_startsIf hs (fun hok => State.starts_memRead ?_) _ _
    rw [Instr.exchanges, if_pos (of_decide_eq_true hok)]; rfl
  | rdangle =>
    exact State.sequence_startsIf hs (fun _ => State.starts_issue (x := .rd s.build.addrAngle) _ rfl rfl) _ _
  | zero => exact State.sequence_startsIf hs (fun _ => State.starts_issue (x := .zero) _ rfl rfl) _ _
  | prog => exact State.sequence_startsIf hs (fun _ => State.starts_issue (x := .prog) _ rfl rfl) _ _
  | gdir => exact State.sequence_startsIf hs (fun _ => State.starts_memRead rfl) _ _
  | guid | gabz | gswap | gzedge | gzwid | gzph => exact State.readOne_startsIf hs rfl _
  | gres => exact State.readPair_startsIf hs rfl _ _
  | gzpos => exact State.readPair_startsIf hs rfl _ fun h l => (zposUnpack h l).setWidth 32
  | wrreg | suid =>
    refine State.writeOne_startsIf hs _ fun hok => ?_
    rw [Instr.exchanges, if_pos (of_decide_eq_true hok)]; rfl
  | sabz | sswap => exact State.readModifyWrite_startsIf hs _ fun _ => rfl
  | rmw | szedge | szwid | szph | sdir =>
    refine State.readModifyWrite_startsIf hs _ fun hok => ?_
    rw [Instr.exchanges, if_pos (of_decide_eq_true hok)]; rfl
  | sres v =>
    exact State.writePair_startsIf hs _ _ fun hok => if_pos (by simpa [Instr.wellFormed] using hok)
  | szpos d =>
    have hcheck : (Instr.szpos d).wellFormed s.build = degOk s.build.degFrac d := by
      simp [Instr.wellFormed, degOk, degScale]
    rw [hcheck]
    exact State.writePair_startsIf hs _ _ fun hok => if_pos (by simpa [degOk, degScale] using hok)

end

-- InvalidArgument after the start.

/-- If a move from `s` ends the operation with InvalidArgument, `s` is its start. -/
def State.RefusedAtStart (s t : State) : Prop := t.rsp = .err .invalidArgument → s.AtStart

/-- No operation has been refused in this state. -/
def State.NotRefused (t : State) : Prop := t.rsp ≠ .err .invalidArgument

/-- A line is refused at its start only, if no continuation and no move after its last exchange refuses. -/
theorem State.sequence_refusedAtStart (start : Result) {rest : List (Byte → Result)} {resume : Result}
    (hrest : ∀ cont ∈ rest, ∀ b, (cont b).Ensures State.NotRefused) (hresume : resume.Ensures State.NotRefused) :
    (s.sequence start rest resume).Ensures s.RefusedAtStart := by
  intro t h hrefused
  rcases State.sequence_next h with ⟨info, -, rfl⟩ | ⟨n, b, cont, -, -, hc, ht⟩ | ⟨hs, -⟩ | ⟨-, -, ht⟩
  · cases hrefused
  · exact absurd hrefused (hrest cont (List.mem_of_getElem? hc) b t ht)
  · exact hs
  · exact absurd hrefused (hresume t ht)

theorem execGdir_refusedAtStart : (execGdir s).Ensures s.RefusedAtStart := by
  refine State.sequence_refusedAtStart _ ?_ Result.ensures_fault
  simp only [List.forall_mem_singleton]
  exact fun b => Result.ensures_ite (by simp [State.NotRefused])
    (Result.ensures_ite (by simp [State.NotRefused]) (by simp [State.NotRefused]))

theorem execZero_refusedAtStart : (execZero s).Ensures s.RefusedAtStart := by
  refine State.sequence_refusedAtStart _ ?_ Result.ensures_fault
  simp only [List.forall_mem_singleton]
  exact fun rx => Result.ensures_ite (by simp [State.NotRefused]) (by simp [State.NotRefused])

section
variable (hr : s.rsp = .absent)
include hr

theorem State.writePair_refusedAtStart (ok : Bool) (addrH addrL : Addr) (high : Byte) (low : Byte → Byte) :
    (s.writePair ok addrH addrL high low).Ensures s.RefusedAtStart := by
  unfold State.writePair
  split <;> exact State.sequence_refusedAtStart _ (by simp [State.NotRefused, hr]) Result.ensures_fault

theorem execRdangle_refusedAtStart : (execRdangle s).Ensures s.RefusedAtStart := by
  refine State.sequence_refusedAtStart _ ?_ (Result.ensures_ite (Result.ensures_ite ?_ ?_) Result.ensures_fault)
  · simp [State.angleByte, State.angleCrc, State.NotRefused, hr]
  · simp [State.NotRefused]
  · simp [State.NotRefused]

theorem execProg_refusedAtStart : (execProg s).Ensures s.RefusedAtStart := by
  refine State.sequence_refusedAtStart _ ?_ (Result.ensures_ite (by simp [State.NotRefused]) Result.ensures_fault)
  simp only [List.forall_mem_singleton]
  exact fun rx => Result.ensures_ite (by simp [State.NotRefused, hr]) (by simp [State.NotRefused])

/-- An operation is refused at its start only (R153). -/
theorem exec_refusedAtStart (hi : i.isWire = false) : Result.Ensures (exec i s) s.RefusedAtStart := by
  cases i with
  | wireRd | wireWr | wireZero | wireProg | wireBurst => cases hi
  | rdangle => exact execRdangle_refusedAtStart hr
  | gdir => exact execGdir_refusedAtStart
  | zero => exact execZero_refusedAtStart
  | prog => exact execProg_refusedAtStart hr
  | burst => exact Result.ensures_next.mpr nofun
  | rdreg | guid | gabz | gswap | gzedge | gzwid | gzph | gres | gzpos | wrreg | suid
  | rmw | sabz | sswap | szedge | szwid | szph | sdir =>
    exact State.sequence_refusedAtStart _ (by simp [State.NotRefused, hr]) Result.ensures_fault
  | sres | szpos => exact State.writePair_refusedAtStart hr _ _ _ _ _

end

end

/-- Settles O59: BURST is refused whole; every other operation starts under its check. -/
theorem wellFormedMeansNotRefused : Obligations.WellFormedMeansNotRefused := by
  intro s i hi hs
  by_cases hb : i = .burst
  · subst hb
    exact ⟨nofun, fun _ => ⟨rfl, Work.cleared, rfl⟩⟩
  obtain ⟨t, ht, hstart⟩ := exec_startsIf hs hi hb
  refine ⟨fun hw => ?_, fun hw => ⟨Instr.exchanges_of_not_wellFormed hi hw, Work.cleared, ?_⟩⟩
  · obtain ⟨x, f, hx, hf, hq, hout⟩ := hstart hw
    exact ⟨x, f, t, hx, hf, by rw [ht, hw, State.guardArg_true], hq, hout⟩
  · rw [ht, hw, State.guardArg_false, if_neg hb]

/-- The fields of a form lie in the low bits of the argument it uses (R57). -/
theorem extractLsb'_congr_of_low {n start len : Nat} {a b : Word} (h : a.extractLsb' 0 n = b.extractLsb' 0 n)
    (hfits : start + len ≤ n) : a.extractLsb' start len = b.extractLsb' start len := by
  rw [← BitVec.extractLsb'_extractLsb'_of_le hfits, h, BitVec.extractLsb'_extractLsb'_of_le hfits]

/-- A bad argument is refused at the start (R71, R153). -/
theorem exec_of_badArgument {s : State} {i : Instr} (hs : s.AtStart) (hbad : badArgument s.build i) :
    exec i s = .next (s.over (.err .invalidArgument) Work.cleared) := by
  have hi := badArgument_isWire hbad
  have hb : i ≠ .burst := by rintro rfl; cases hbad
  obtain ⟨t, ht, -⟩ := exec_startsIf hs hi hb
  rw [ht, (Instr.wellFormed_eq_false_iff hi).mpr (.inl hbad), State.guardArg_false]

/-- An operation refused in one move was at its start, with its argument out of range and XOUT as before. -/
theorem exec_refused {s t : State} {i : Instr} (hi : i.isWire = false) (hr : s.rsp = .absent) (h : exec i s = .next t)
    (ht : t.rsp = .err .invalidArgument) :
    s.AtStart ∧ badArgument s.build i ∧ t = s.over (.err .invalidArgument) Work.cleared := by
  have hs := exec_refusedAtStart hr hi t h ht
  have hb : i ≠ .burst := by
    rintro rfl
    cases h
    cases ht
  obtain ⟨u, hu, hstart⟩ := exec_startsIf hs hi hb
  rcases State.guardArg_next (hu.symm.trans h) with ⟨hw, hut⟩ | ⟨hw, rfl⟩
  · obtain ⟨-, -, -, -, hq, -⟩ := hstart hw
    obtain rfl : u = t := Host.Outcome.next.inj hut
    obtain ⟨-, -, ⟨hdone, -⟩ | ⟨hrsp, -⟩⟩ := exec_moves hi u h
    · cases hq.symm.trans hdone
    · cases ht.symm.trans (hrsp.trans hr)
  · exact ⟨hs, ((Instr.wellFormed_eq_false_iff hi).mp hw).resolve_right hb, rfl⟩

/-- Settles O36: the check of a start is the only place where InvalidArgument comes from, and a form's fields lie in the bits
it uses. -/
theorem argumentOutOfRangeIsRefused : Obligations.ArgumentOutOfRangeIsRefused := by
  refine ⟨fun s i hs hbad => ?_, fun s t i hi hr h ht => ?_, fun s v hs i hv => ?_, fun a b h => ?_, fun a b h => ?_,
    fun a b h => ?_⟩
  · exact ⟨Work.cleared, exec_of_badArgument hs hbad, hs.1, rfl⟩
  · obtain ⟨hs, hbad, rfl⟩ := exec_refused hi hr h ht
    exact ⟨hs, hbad, hs.1, rfl⟩
  · rcases hv with rfl | rfl <;> exact State.sequence_atStart hs _ _ _
  all_goals simp [decodeOp, h, extractLsb'_congr_of_low h]

end Machine

end Sys2Proof
end

section
/-! PROOF. O17, O18, O19: the register codec operations (R77 to R81), each read off the line of its shape: its start, the
continuation after each exchange, and the end with TransportError that every line has (R151). -/

namespace Sys2Proof.Machine

/-- The register space (R35, R37), as the numbers of its addresses. -/
theorem addrOk_of_toNat_le {addr : Addr} (h : addr.toNat ≤ 0x1FF) : addrOk addr = true :=
  (addrOk_iff addr).mpr (BitVec.le_def.mpr h)

section
variable {s : State}

/-- A failed exchange ends every operation that makes one with TransportError, whichever exchange it was (R151). -/
theorem exec_failed {i : Instr} {n : Nat} (hi : i.isWire = false) (hb : i ≠ .burst) (h : s.reply = some (.fail n)) :
    exec i s = .next (s.over (.err (.transport n)) Work.cleared) := by
  cases i with
  | wireRd | wireWr | wireZero | wireProg | wireBurst => cases hi
  | burst => exact absurd rfl hb
  | sres | szpos =>
    simp only [exec, execSres, execSzpos, State.writePair]
    split <;> exact State.sequence_failed h _ _ _
  | rdreg | wrreg | rmw | rdangle | guid | suid | gres | gabz | sabz | gswap | sswap | gzpos | gzedge | szedge
  | gzwid | szwid | gzph | szph | gdir | sdir | zero | prog => exact State.sequence_failed h _ _ _

/-- The byte of the first exchange goes to the first continuation (R15). -/
theorem State.sequence_first {b : Byte} (h : s.Answered 1 b) (start : Result) (cont : Byte → Result)
    (rest : List (Byte → Result)) (resume : Result) : s.sequence start (cont :: rest) resume = cont b :=
  State.sequence_answered h rfl rfl _ _

/-- The byte of the second exchange goes to the second continuation (R15). -/
theorem State.sequence_second {b : Byte} (h : s.Answered 2 b) (start : Result) (first cont : Byte → Result)
    (rest : List (Byte → Result)) (resume : Result) : s.sequence start (first :: cont :: rest) resume = cont b :=
  State.sequence_answered h rfl rfl _ _

-- The shapes of an operation that writes one register.

theorem State.writeOne_start (hs : s.AtStart) (addr : Addr) (v : Byte) :
    s.writeOne true addr v = .next (s.memWrite addr v) :=
  State.sequence_atStart hs _ _ _

theorem State.writeOne_written {b : Byte} (h : s.Answered 1 b) (ok : Bool) (addr : Addr) (v : Byte) :
    s.writeOne ok addr v = .next (s.returnOk 0) :=
  State.sequence_first h _ _ _ _

theorem State.readModifyWrite_start (hs : s.AtStart) (addr : Addr) (newByte : Byte → Byte) :
    s.readModifyWrite true addr newByte = .next (s.memRead addr) :=
  State.sequence_atStart hs _ _ _

/-- The byte that was read goes into TMP, the byte computed from it into WDL and out to the same register (R79). -/
theorem State.readModifyWrite_read {b : Byte} (h : s.Answered 1 b) (ok : Bool) (addr : Addr) (newByte : Byte → Byte) :
    s.readModifyWrite ok addr newByte =
      .next (({ s with tmp := b, wdl := newByte b } : State).memWrite addr (newByte b)) :=
  State.sequence_first h _ _ _ _

theorem State.readModifyWrite_written {b : Byte} (h : s.Answered 2 b) (ok : Bool) (addr : Addr)
    (newByte : Byte → Byte) : s.readModifyWrite ok addr newByte = .next (s.returnOk 0) :=
  State.sequence_second h _ _ _ _ _

-- RDREG, WRREG and RMW on a register of the device.

section
variable {a : Addr} (hs : s.AtStart) (ha : addrOk a = true)
include hs ha

theorem execRdreg_start : execRdreg a s = .next (s.memRead a) := by
  rw [execRdreg, ha]; exact State.sequence_atStart hs _ _ _

theorem execWrreg_start (d : Byte) : execWrreg a d s = .next (s.memWrite a d) := by
  rw [execWrreg, ha, State.writeOne_start hs]

theorem execRmw_start (m nb : Byte) : execRmw a m nb s = .next (s.memRead a) := by
  rw [execRmw, ha, State.readModifyWrite_start hs]

end

theorem execRdreg_read {b : Byte} (h : s.Answered 1 b) (a : Addr) :
    execRdreg a s = .next (s.returnOk (b.setWidth 32)) :=
  State.sequence_first h _ _ _ _

end

/-- Settles O17: one read, and its byte is the value. -/
theorem rdregReadsOneRegister : Obligations.RdregReadsOneRegister :=
  ⟨fun _ => rfl, fun _ a => ⟨fun hs ha => ⟨_, exec_of_badArgument (i := .rdreg a) hs ha⟩,
    fun hs ha => execRdreg_start hs (addrOk_of_toNat_le ha),
    fun _ h => ⟨Work.cleared, execRdreg_read h a⟩,
    fun _ h => ⟨_, exec_failed (i := .rdreg a) rfl nofun h⟩⟩⟩

/-- Settles O18: one write, and the byte that comes back is not used. -/
theorem wrregWritesOneRegister : Obligations.WrregWritesOneRegister :=
  ⟨fun _ => rfl, fun _ a d => ⟨fun hs ha => ⟨_, exec_of_badArgument (i := .wrreg a d) hs ha⟩,
    fun hs ha => execWrreg_start hs (addrOk_of_toNat_le ha) d,
    fun _ h => ⟨Work.cleared, State.writeOne_written h _ a d⟩,
    fun _ h => ⟨_, exec_failed (i := .wrreg a d) rfl nofun h⟩⟩⟩

/-- Settles O19: a read, then a write of the computed byte to the same register. -/
theorem rmwReadsThenWritesTheSameRegister : Obligations.RmwReadsThenWritesTheSameRegister :=
  ⟨fun _ => rfl, fun _ a m nb => ⟨fun hs ha => ⟨_, exec_of_badArgument (i := .rmw a m nb) hs ha⟩,
    fun hs ha => execRmw_start hs (addrOk_of_toNat_le ha) m nb,
    fun _ h => State.readModifyWrite_read h _ a fun b => rmwByte b m nb,
    fun _ h => ⟨Work.cleared, State.readModifyWrite_written h _ a fun b => rmwByte b m nb⟩,
    fun _ h => ⟨_, exec_failed (i := .rmw a m nb) rfl nofun h⟩⟩⟩

end Sys2Proof.Machine
end

section
/-! PROOF. O55: the read-modify-write law against the ideal device (R82, R50). A run against the ideal device is walked one
exchange at a time: the move that sends a frame and the answer to it are two steps, and what they come to is one record of
the state after the exchange. -/

namespace Sys2Proof.Machine

/-- The request word of an operation decodes to it, under every build (R57, R58). -/
theorem decodeRequest_requestWord {i : Instr} (hi : i.isWire = false) : decodeRequest (requestWord i) = .ok i := by
  have hcode : decode Config.default (encode Config.default i) = .ok i := decode_encode (by decide) i
  cases i with
  | wireRd | wireWr | wireZero | wireProg | wireBurst => cases hi
  | _ => exact hcode

/-- `n` steps with the pins of the ideal device, as `serveIdeal` takes them once the request is accepted. -/
def idealRun (n : Nat) (s : State) : Result := runWith (List.replicate n Pins.ideal) s

/-- `State.advance` as a record, so that its fields reduce. -/
def State.nextPins (s : State) : State := { s with pins := s.env.head?.getD {}, env := s.env.tail }

/-- The byte the ideal device answers to a read: the one its register holds, or a free one (R34, R50). -/
def State.deviceByte (s : State) (addr : Addr) : Byte := (Memory.read s.dev addr.toNat).getD (Config.freeByte s.draws)

/-- The count of free bytes after a read by the ideal device. -/
def State.drawsAfterRead (s : State) (addr : Addr) : Nat :=
  if Memory.read s.dev addr.toNat = none then s.draws + 1 else s.draws

/-- The state one step after an answer: the answer in hand, the device and the count of free bytes as given. -/
def State.exchanged (s : State) (r : Reply) (dev : Memory) (draws : Nat) : State :=
  ({ s.answeredBy r with dev := dev, draws := draws } : State).nextPins

/-- The operation has ended with `r`, and this is what the device holds. -/
def State.EndedWith (build : Config) (r : Rsp) (dev : Memory) (t : State) : Prop :=
  t.seq = .done ∧ t.rsp = r ∧ t.build = build ∧ t.dev = dev

section
variable {s t u : State} {i : Instr} {n : Nat} {addr : Addr} {v : Byte}

-- The answers of the ideal device to a RD and a WR of one of its registers.

theorem State.idealReply_rd (ha : addrOk addr = true) (tx : Byte) :
    s.idealReply s.build.opcRd addr tx = .ok (s.deviceByte addr) := by
  rw [State.deviceByte]
  cases hx : Memory.read s.dev addr.toNat with
  | none => exact State.idealReply_rd_unknown ha hx
  | some b => exact State.idealReply_rd_known ha hx

theorem State.exchange_ideal_rd (hv : s.pins.xrspValid = true) (hd : s.pins.device = .ideal) (hok : s.build.Ok)
    (ha : addrOk addr = true) (tx : Byte) : s.exchange s.build.opcRd addr tx =
      { s.answeredBy (.ok (s.deviceByte addr)) with draws := s.drawsAfterRead addr } := by
  obtain ⟨⟨hrw, -⟩, -⟩ := Config.opcs_distinct hok.1
  rw [State.exchange_ideal hv hd, State.idealReply_rd ha, if_neg fun h => hrw h.1]
  simp [State.answeredBy, State.drawsAfterRead, ha]

theorem State.exchange_ideal_wr (hv : s.pins.xrspValid = true) (hd : s.pins.device = .ideal) (hok : s.build.Ok)
    (ha : addrOk addr = true) (tx : Byte) : s.exchange s.build.opcWr addr tx =
      { s.answeredBy (.ok tx) with dev := Memory.write s.dev addr.toNat tx } := by
  obtain ⟨⟨hrw, -⟩, -⟩ := Config.opcs_distinct hok.1
  rw [State.exchange_ideal hv hd, State.idealReply_wr hrw ha, if_pos ⟨rfl, ha⟩, if_neg fun h => hrw h.1.symm]
  rfl

-- One step of a run.

theorem idealRun_succ (h : step (s.withPins Pins.ideal) = .next t) : idealRun (n + 1) s = idealRun n t := by
  have hstep : stepWith Pins.ideal s = .next t := h
  simp [idealRun, List.replicate_succ, runWith, hstep]

theorem serveIdeal_eq_idealRun (hb : s.busy = false) (w : ReqWord) :
    serveIdeal w s = idealRun 10 (s.accept w).nextPins := by
  have hstep : stepWith (Pins.request w) s = .next (s.accept w).nextPins :=
    (step_host (s := s.withPins (Pins.request w)) rfl hb).trans (congrArg Host.Outcome.next (State.advance_eq _))
  simp [serveIdeal, serve, idealRun, runWith, hstep]

theorem Result.advanced_eq_nextPins {r : Result} (h : r = .next t) : Result.advanced r = .next t.nextPins := by
  rw [h]; exact Result.advanced_next_eq t

/-- The move of the operation in hand. -/
theorem idealRun_move (hq : s.seq = .run) (hi : s.inHand = .ok i) (h : exec i (s.withPins Pins.ideal) = .next t) :
    idealRun (n + 1) s = idealRun n t.nextPins :=
  idealRun_succ ((step_run (s := s.withPins Pins.ideal) rfl hq hi).trans (Result.advanced_eq_nextPins h))

/-- The answer to the frame in flight. -/
theorem idealRun_answer {f : Frame} (hq : s.seq = .waitX) (hx : s.xout = some f) (hd : decodeFrame s.build f = .ok i)
    (h : exec i (s.withPins Pins.ideal) = .next t) : idealRun (n + 1) s = idealRun n t.nextPins :=
  idealRun_succ ((step_waitX (s := s.withPins Pins.ideal) rfl hq hx hd).trans (Result.advanced_eq_nextPins h))

theorem idealRun_answer_rd (hq : s.seq = .waitX) (hx : s.xout = some (packFrame s.build.opcRd addr 0))
    (hok : s.build.Ok) (ha : addrOk addr = true) :
    idealRun (n + 1) s = idealRun n (s.exchanged (.ok (s.deviceByte addr)) s.dev (s.drawsAfterRead addr)) :=
  (idealRun_answer hq hx (decodeFrame_packFrame s.build hok.1 addr 0).1
    (congrArg Host.Outcome.next (State.exchange_ideal_rd (s := s.withPins Pins.ideal) rfl rfl hok ha 0))).trans rfl

theorem idealRun_answer_wr (hq : s.seq = .waitX) (hx : s.xout = some (packFrame s.build.opcWr addr v))
    (hok : s.build.Ok) (ha : addrOk addr = true) :
    idealRun (n + 1) s = idealRun n (s.exchanged (.ok v) (Memory.write s.dev addr.toNat v) s.draws) :=
  (idealRun_answer hq hx (decodeFrame_packFrame s.build hok.1 addr v).2.1
    (congrArg Host.Outcome.next (State.exchange_ideal_wr (s := s.withPins Pins.ideal) rfl rfl hok ha v))).trans rfl

/-- Once the operation has ended nothing but the pins moves. -/
theorem idealRun_done (hq : s.seq = .done) (n : Nat) :
    (idealRun n s).Reaches (State.EndedWith s.build s.rsp s.dev) := by
  induction n generalizing s with
  | zero => exact ⟨s, rfl, hq, rfl, rfl, rfl⟩
  | succ n ih =>
    have hstep := step_host (s := s.withPins Pins.ideal) rfl (State.busy_eq_false_iff.mpr (.inr hq))
    rw [idealRun_succ hstep, State.advance_eq]
    exact ih hq

-- The stretches of an operation.

section
variable {P : State → Prop}

/-- A read: the move that sends it and its answer. -/
theorem idealRun_read (hq : s.seq = .run) (hi : s.inHand = .ok i)
    (h : exec i (s.withPins Pins.ideal) = .next (u.memRead addr)) (hok : u.build.Ok) (ha : addrOk addr = true)
    (hrest : (idealRun n
      (u.nextPins.exchanged (.ok (u.deviceByte addr)) u.dev (u.drawsAfterRead addr))).Reaches P) :
    (idealRun (n + 2) s).Reaches P := by
  rw [idealRun_move hq hi h, idealRun_answer_rd (s := (u.memRead addr).nextPins) rfl rfl hok ha]
  exact hrest

/-- A write: the move that sends it and its answer. -/
theorem idealRun_write (hq : s.seq = .run) (hi : s.inHand = .ok i)
    (h : exec i (s.withPins Pins.ideal) = .next (u.memWrite addr v)) (hok : u.build.Ok) (ha : addrOk addr = true)
    (hrest : (idealRun n (u.nextPins.exchanged (.ok v) (Memory.write u.dev addr.toNat v) u.draws)).Reaches P) :
    (idealRun (n + 2) s).Reaches P := by
  rw [idealRun_move hq hi h, idealRun_answer_wr (s := (u.memWrite addr v).nextPins) rfl rfl hok ha]
  exact hrest

end

/-- The move that ends the operation. -/
theorem idealRun_ended {build : Config} {r : Rsp} {dev : Memory} (hq : s.seq = .run) (hi : s.inHand = .ok i)
    (h : exec i (s.withPins Pins.ideal) = .next (u.ended r)) (hbuild : u.build = build) (hdev : u.dev = dev) :
    (idealRun (n + 1) s).Reaches (State.EndedWith build r dev) := by
  subst hbuild hdev
  rw [idealRun_move hq hi h]
  exact idealRun_done rfl n

/-- An operation of the read-modify-write shape, run against the ideal device: it ends Ok, and the one register it names holds
the byte computed from the one that was read there (R79, R82). -/
theorem serveIdeal_readModifyWrite {w : ReqWord} (hok : s.build.Ok) (hb : s.busy = false) (hw : decodeRequest w = .ok i)
    (ha : addrOk addr = true) {newByte : Byte → Byte}
    (hexec : ∀ u : State, u.build = s.build → exec i u = u.readModifyWrite true addr newByte) :
    (serveIdeal w s).Reaches
      (State.EndedWith s.build (.ok 0) (Memory.write s.dev addr.toNat (newByte (s.deviceByte addr)))) := by
  have hi : (s.accept w).nextPins.inHand = .ok i := hw
  rw [serveIdeal_eq_idealRun hb]
  refine idealRun_read rfl hi (Eq.trans (hexec _ (by rfl)) (State.readModifyWrite_start ⟨by rfl, by rfl⟩ _ _)) hok ha ?_
  refine idealRun_write rfl hi
    (Eq.trans (hexec _ (by rfl)) (State.readModifyWrite_read ⟨by rfl, by rfl⟩ _ _ _)) hok ha ?_
  exact idealRun_ended rfl hi
    (Eq.trans (hexec _ (by rfl)) (State.readModifyWrite_written ⟨by rfl, by rfl⟩ _ _ _)) rfl rfl

end

-- The byte written (R79, R80).

section
variable {b m nb : Byte}

theorem getElem_rmwByte {j : Nat} (hj : j < 8) : (rmwByte b m nb)[j] = (b[j] && !m[j] || nb[j]) := by
  simp [rmwByte]

/-- New bits that lie inside the mask have no bit where the mask has none. -/
theorem getElem_of_and_not_mask (h : nb &&& ~~~m = 0) {j : Nat} (hj : j < 8) (hm : m[j] = false) : nb[j] = false := by
  have hbit : (nb &&& ~~~m)[j] = false := by simp [h]
  simpa [hm] using hbit

variable (h : nb &&& ~~~m = 0) (b)
include h

theorem rmwByte_and_mask : rmwByte b m nb &&& m = nb := by
  ext j hj
  rw [BitVec.getElem_and, getElem_rmwByte hj]
  cases hm : m[j] with
  | false => simp [getElem_of_and_not_mask h hj hm]
  | true => simp

theorem rmwByte_and_not_mask : rmwByte b m nb &&& ~~~m = b &&& ~~~m := by
  ext j hj
  rw [BitVec.getElem_and, getElem_rmwByte hj, BitVec.getElem_and, BitVec.getElem_not]
  cases hm : m[j] with
  | false => simp [getElem_of_and_not_mask h hj hm]
  | true => simp

end

/-- Settles O55: the run stores `rmwByte b m nb` in the register that was read, and a write leaves every other register. -/
theorem readModifyWriteLaw : Obligations.ReadModifyWriteLaw := by
  intro s a m nb b hok hb ha hnb hread
  have haddr : addrOk a = true := (addrOk_iff a).mpr ha
  have hbyte : s.deviceByte a = b := by rw [State.deviceByte, hread]; rfl
  obtain ⟨t, ht, hq, hrsp, -, hdev⟩ := serveIdeal_readModifyWrite (newByte := fun b => rmwByte b m nb) hok hb
    (decodeRequest_requestWord (i := .rmw a m nb) rfl) haddr fun u _ => by rw [exec, execRmw, haddr]
  rw [hbyte] at hdev
  exact ⟨t, rmwByte b m nb, ht, hq, hrsp, hdev ▸ Memory.read_write_same _ _ _, rmwByte_and_mask b hnb,
    rmwByte_and_not_mask b hnb, fun n hn => hdev ▸ Memory.read_write_other _ _ hn⟩

end Sys2Proof.Machine
end

section
/-! PROOF. O11, O48, O49: the members of an angle sample (R92), the slices of the CRC validator (R95, R99) and its laws
(R98). The validator is linear over exclusive-or, so what a change of the composite does to the CRC is the CRC of the
change. -/

namespace Sys2Proof.Machine

-- The members of an angle sample.

/-- The sample in a response value: the composite lies in the low 24 bits, the received CRC above it (R92). -/
theorem AngleSample.ofWord_sampleWord (crc : Byte) (c : Composite) (valid : Bool) :
    AngleSample.ofWord (sampleWord crc c) valid =
      { rawAngle := (c >>> 3).setWidth 21, status := c.setWidth 3, crc := crc, valid := valid } := by
  have hangle : (sampleWord crc c).extractLsb' 3 21 = (c >>> 3).setWidth 21 :=
    (BitVec.extractLsb'_append_eq_of_add_le (by decide)).trans rfl
  have hstatus : (sampleWord crc c).extractLsb' 0 3 = c.setWidth 3 :=
    (BitVec.extractLsb'_append_eq_of_add_le (by decide)).trans rfl
  have hcrc : (sampleWord crc c).extractLsb' 24 8 = crc := BitVec.extractLsb'_append_eq_left
  rw [AngleSample.ofWord, hangle, hstatus, hcrc]

/-- Settles O11: Ok and ChecksumMismatch carry the same sample word, and only the tag tells them apart. -/
theorem angleSampleIsCarriedByTheResponse : Obligations.AngleSampleIsCarriedByTheResponse :=
  fun crc c => ⟨congrArg some (AngleSample.ofWord_sampleWord crc c true),
    congrArg some (AngleSample.ofWord_sampleWord crc c false)⟩

-- The slices (R95, R96): fields of the composite, the last one above three zero bits.

theorem crcSlice1_eq_extractLsb' (c : Composite) : crcSlice1 c = c.extractLsb' 13 8 := rfl

theorem crcSlice2_eq_extractLsb' (c : Composite) : crcSlice2 c = c.extractLsb' 5 8 := rfl

theorem crcSlice3_eq_append (c : Composite) : crcSlice3 c = c.extractLsb' 0 5 ++ (0 : BitVec 3) := by
  refine BitVec.eq_of_getElem_eq fun j hj => ?_
  rw [BitVec.getElem_append]
  by_cases h : j < 3 <;> simp [crcSlice3, h]

theorem extractLsb'_crcSource_rawAngle21 (c : Composite) (start len : Nat) :
    (crcSource .rawAngle21 c).extractLsb' start len = c.extractLsb' (3 + start) len := by
  ext j hj
  simp [crcSource, Nat.add_assoc]

/-- Settles O48: under the other reading every slice starts three bits higher in the composite (R99). -/
theorem crcSlices : Obligations.CrcSlices := by
  refine ⟨fun c => ⟨rfl, rfl, crcSlice3_eq_append c⟩, fun c => ?_, by decide +kernel, by decide +kernel⟩
  refine ⟨extractLsb'_crcSource_rawAngle21 c 13 8, extractLsb'_crcSource_rawAngle21 c 5 8, ?_⟩
  rw [crcSlice3_eq_append, extractLsb'_crcSource_rawAngle21]

-- Linearity (R98 b).

/-- The top bit of an exclusive-or is set iff one of the two is; where both are, the two polynomials cancel. -/
theorem crc8Shift_xor (x y : Byte) : crc8Shift (x ^^^ y) = crc8Shift x ^^^ crc8Shift y := by
  simp only [crc8Shift, BitVec.msb_xor, BitVec.shiftLeft_xor_distrib]
  cases x.msb <;> cases y.msb <;> grind

theorem crc8Shifts_xor (k : Nat) (x y : Byte) : crc8Shifts k (x ^^^ y) = crc8Shifts k x ^^^ crc8Shifts k y := by
  induction k generalizing x y with
  | zero => rfl
  | succ k ih => rw [crc8Shifts, crc8Shift_xor, ih]; rfl

theorem crc8Update_xor (x y a b : Byte) : crc8Update (x ^^^ y) (a ^^^ b) = crc8Update x a ^^^ crc8Update y b := by
  have hin : x ^^^ y ^^^ (a ^^^ b) = x ^^^ a ^^^ (y ^^^ b) := by ac_rfl
  rw [crc8Update, hin, crc8Shifts_xor]; rfl

theorem crcSource_xor (src : CrcSliceSource) (c d : Composite) :
    crcSource src (c ^^^ d) = crcSource src c ^^^ crcSource src d := by
  cases src
  · rfl
  · exact BitVec.ushiftRight_xor_distrib c d 3

/-- The validator is linear under both readings: its slices and its updates are, and it starts from zero. -/
theorem crc8Angle_xor (src : CrcSliceSource) (c d : Composite) :
    crc8Angle src (c ^^^ d) = crc8Angle src c ^^^ crc8Angle src d := by
  have hinit : Config.crcInit = Config.crcInit ^^^ Config.crcInit := rfl
  simp only [crc8Angle, crcSource_xor, crcSlice1, crcSlice2, crcSlice3, BitVec.ushiftRight_xor_distrib,
    BitVec.shiftLeft_xor_distrib, BitVec.setWidth_xor]
  rw [hinit, crc8Update_xor, crc8Update_xor, crc8Update_xor]
  rfl

-- What the CRC of the default reading sees (R98 d to f).

/-- A field of the composite that lies below bit 21 is a field of its low 21 bits. -/
theorem extractLsb'_and_low21 (c : Composite) {start len : Nat} (h : start + len ≤ 21) :
    (c &&& 0x1FFFFF).extractLsb' start len = c.extractLsb' start len := by
  have hmask : (0x1FFFFF : Composite) = BitVec.ofNat 24 (2 ^ 21 - 1) := rfl
  ext j hj
  rw [BitVec.getElem_extractLsb', BitVec.getElem_extractLsb', BitVec.getLsbD_and, hmask, BitVec.getLsbD_ofNat,
    Nat.testBit_two_pow_sub_one, decide_eq_true (by omega : start + j < 24), decide_eq_true (by omega : start + j < 21)]
  simp

theorem crc8Angle_and_low21 (c : Composite) :
    crc8Angle .composite24 c = crc8Angle .composite24 (c &&& 0x1FFFFF) := by
  simp only [crc8Angle, crcSource, crcSlice1_eq_extractLsb', crcSlice2_eq_extractLsb', crcSlice3_eq_append]
  rw [extractLsb'_and_low21 c (by decide), extractLsb'_and_low21 c (by decide), extractLsb'_and_low21 c (by decide)]

theorem crc8Angle_zero : crc8Angle .composite24 0 = 0 := by decide +kernel

theorem crc8Angle_single_bit_ne_zero : ∀ k < 21, crc8Angle .composite24 (BitVec.ofNat 24 (2 ^ k)) ≠ 0 := by
  decide +kernel

/-- Settles O49: with linearity, a change is seen iff its own CRC is not zero. -/
theorem crcLaws : Obligations.CrcLaws := by
  refine ⟨crc8Angle_zero, crc8Update_xor, crc8Angle_xor .composite24, by decide +kernel, crc8Angle_and_low21,
    fun c k hk heq => ?_, fun c d hd => ?_⟩
  · rw [crc8Angle_xor] at heq
    exact crc8Angle_single_bit_ne_zero k hk (by simpa using heq)
  · rw [crc8Angle_xor, crc8Angle_and_low21 d, hd, crc8Angle_zero]
    exact BitVec.xor_zero

end Sys2Proof.Machine
end

section
/-! PROOF. O20: the moves of RDANGLE (R90 to R93), each read off its line of four reads. -/

namespace Sys2Proof.Machine

section
variable {s : State} {b : Byte}

theorem execRdangle_start (hs : s.AtStart) :
    execRdangle s = .next (({ s with composite := 0 } : State).memRead s.build.addrAngle) :=
  State.sequence_atStart hs _ _ _

/-- Each of the first three bytes goes into COMPOSITE, and the next register is read (R91). -/
theorem execRdangle_byte {k : Nat} (hk : k < 3) (h : s.Answered (BitVec.ofNat 3 (k + 1)) b) :
    execRdangle s = s.angleByte k b (s.build.addrAngle + BitVec.ofNat 12 (k + 1)) := by
  interval_cases k <;> exact State.sequence_answered (cont := fun b => s.angleByte _ b _) h rfl rfl _ _

theorem execRdangle_crc (h : s.Answered 4 b) : execRdangle s = s.angleCrc b :=
  State.sequence_answered h rfl rfl _ _

theorem execRdangle_verdict (hk : s.stepCount = 4) (hr : s.reply = none) : execRdangle s = s.angleVerdict := by
  rw [execRdangle, State.sequence_resumed hr (by simp [hk]), if_pos hk]

end

/-- The verdict ends the operation with the sample word, under one of two tags (R90, R97). -/
theorem State.angleVerdict_eq (s : State) : s.angleVerdict =
    .next (s.ended (if s.crc = s.crcRx then .ok (sampleWord s.crcRx s.composite)
      else .err (.checksumMismatch (sampleWord s.crcRx s.composite)))) := by
  unfold State.angleVerdict
  split <;> rfl

theorem orByte_two (c : Composite) (b : Byte) : orByte c 2 b = c ||| b.setWidth 24 := by
  rw [orByte, BitVec.shiftLeft_zero]

/-- Settles O20: the start, the three bytes, the CRC, the verdict, and the end with TransportError. -/
theorem rdangleAssemblesAndValidates : Obligations.RdangleAssemblesAndValidates := by
  refine ⟨fun _ => rfl, fun s => ⟨fun hs => execRdangle_start hs,
    fun b h => execRdangle_byte (k := 0) (by decide) h, fun b h => execRdangle_byte (k := 1) (by decide) h,
    fun b h => ?_, fun b h => execRdangle_crc h,
    fun hk hr => ⟨Work.cleared, (execRdangle_verdict hk hr).trans s.angleVerdict_eq⟩,
    fun n h => ⟨Work.cleared, exec_failed rfl nofun h⟩⟩⟩
  rw [← orByte_two]
  exact execRdangle_byte (k := 2) (by decide) h

end Sys2Proof.Machine
end

section
/-! PROOF. O21: a whole RDANGLE answered on the wires (R90, R93, R97, R154). One read is two steps, the move that sends it
and its answer, and it takes RDANGLE from one point of its line to the next; any number of good answers is an induction
over the bytes. -/

namespace Sys2Proof.Machine

-- Runs whose exchanges are answered on the wires.

section
variable {s t u : State} {i : Instr} {p q : Pins} {ps : List Pins} {addr : Addr}

theorem runWith_cons (h : step (s.withPins p) = .next t) : runWith (p :: ps) s = runWith ps t := by
  have hstep : stepWith p s = .next t := h
  simp [runWith, hstep]

theorem serve_eq_runWith (hb : s.busy = false) (w : ReqWord) : serve w ps s = runWith ps (s.accept w).nextPins :=
  runWith_cons ((step_host (s := s.withPins (Pins.request w)) rfl hb).trans
    (congrArg Host.Outcome.next (State.advance_eq _)))

/-- The move of the operation in hand. -/
theorem runWith_move (hp : p.reset = false) (hq : s.seq = .run) (hi : s.inHand = .ok i)
    (h : exec i (s.withPins p) = .next t) : runWith (p :: ps) s = runWith ps t.nextPins :=
  runWith_cons ((step_run (s := s.withPins p) hp hq hi).trans (Result.advanced_eq_nextPins h))

/-- A read answered on the wires changes nothing in the device, whether or not the device acted on it (R45). -/
theorem State.exchange_onWires_rd (hv : s.pins.xrspValid = true) (hd : s.pins.device ≠ .ideal) (tx : Byte) :
    s.exchange s.build.opcRd addr tx = s.answeredBy s.onWires := by
  rw [s.exchange_onWires hv hd, State.deviceActs_dev, if_pos rfl, ite_self]
  rfl

/-- A read: the move that sends it, then its answer on the wires. -/
theorem runWith_read {r : Reply} (hp : p.reset = false) (hq : s.seq = .run) (hi : s.inHand = .ok i)
    (h : exec i (s.withPins p) = .next (u.memRead addr)) (hcodes : u.build.opcs.Nodup) (hreset : q.reset = false)
    (hv : q.xrspValid = true) (hd : q.device ≠ .ideal) (hr : (u.withPins q).onWires = r) :
    runWith (p :: q :: ps) s = runWith ps (u.nextPins.answeredBy r).nextPins := by
  have hsent := runWith_move (ps := q :: ps) hp hq hi h
  have hturn := step_waitX (s := (u.memRead addr).nextPins.withPins q) hreset rfl rfl
    (decodeFrame_packFrame u.build hcodes addr 0).1
  have hanswer := State.exchange_onWires_rd (s := (u.memRead addr).nextPins.withPins q) (addr := addr) hv hd 0
  rw [hsent, runWith_cons (hturn.trans (Result.advanced_eq_nextPins (congrArg Host.Outcome.next hanswer))), ← hr]
  rfl

end

-- The points of RDANGLE's line. The bytes read are listed latest first.

/-- COMPOSITE with these bytes ORed in (R91). -/
def angleComposite : List Byte → Composite
  | [] => 0
  | b :: bs => orByte (angleComposite bs) bs.length b

/-- The three bytes land on disjoint bits, so the composite is their concatenation (R91). -/
theorem angleComposite_three (b0 b1 b2 : Byte) : angleComposite [b2, b1, b0] = b0 ++ b1 ++ b2 := by
  have hfirst : orByte 0 0 b0 = b0.setWidth 24 <<< 16 := BitVec.zero_or
  have hplaced := BitVec.setWidth_append_append_eq_shiftLeft_setWidth_or (w''' := 24) (b := b0) (b' := b1) (b'' := b2)
  rw [BitVec.setWidth_eq] at hplaced
  change orByte (orByte (orByte 0 0 b0) 1 b1) 2 b2 = _
  rw [hfirst, orByte_two, hplaced]
  rfl

/-- The bytes of the exchanges so far: the latest is in hand, the others are in COMPOSITE. -/
def State.AnglePoint (u : State) : List Byte → Prop
  | [] => u.AtStart
  | b :: bs => u.Answered (BitVec.ofNat 3 (bs.length + 1)) b ∧ u.composite = angleComposite bs

/-- RDANGLE is in hand between two exchanges, `bs` the bytes of those so far, with the build and the device of `s`. -/
structure State.AngleRun (s : State) (bs : List Byte) (u : State) : Prop where
  seq    : u.seq = .run
  inHand : u.inHand = .ok .rdangle
  build  : u.build = s.build
  dev    : u.dev = s.dev
  point  : u.AnglePoint bs

/-- The pins of a good answer, `b` on the wires (R26). -/
def Pins.good (m : DeviceMove) (b : Byte) : Pins := { xrspValid := true, xrspData := b, device := m }

/-- The pins of a failed exchange, `n` on the payload wires (R26). -/
def Pins.bad (m : DeviceMove) (n : Nat) : Pins := { xrspValid := true, xrspFail := true, xrspInfo := n, device := m }

section
variable {s u : State} {bs : List Byte} {m : DeviceMove}

theorem State.AnglePoint.count (h : u.AnglePoint bs) : u.stepCount = BitVec.ofNat 3 bs.length := by
  cases bs with
  | nil => obtain ⟨hcount, -⟩ := h; exact hcount
  | cons b bs => obtain ⟨⟨hcount, -⟩, -⟩ := h; exact hcount

/-- With fewer than four bytes read the next move puts the latest into COMPOSITE and reads the next register. -/
theorem State.AnglePoint.exec_rdangle (h : u.AnglePoint bs) (hlen : bs.length < 4) : execRdangle u =
    .next (({ u with composite := angleComposite bs } : State).memRead
      (u.build.addrAngle + BitVec.ofNat 12 bs.length)) := by
  cases bs with
  | nil => rw [execRdangle_start h]; simp [angleComposite]
  | cons b bs =>
    obtain ⟨hanswered, hcomposite⟩ := h
    rw [execRdangle_byte (Nat.lt_of_succ_lt_succ hlen) hanswered, State.angleByte, hcomposite]
    rfl

theorem State.angleRun_accept (s : State) :
    s.AngleRun [] (s.accept (requestWord .rdangle)).nextPins where
  seq := rfl
  inHand := decodeRequest_requestWord (i := .rdangle) rfl
  build := rfl
  dev := rfl
  point := ⟨rfl, rfl⟩

/-- RDANGLE after its next read is answered by `r`, the bytes before it in COMPOSITE. -/
def State.afterAngleRead (u : State) (bs : List Byte) (r : Reply) : State :=
  (({ u with composite := angleComposite bs } : State).nextPins.answeredBy r).nextPins

namespace State.AngleRun

/-- The next read, whatever the wires answer. -/
theorem runWith_next (h : s.AngleRun bs u) (hok : s.build.Ok) (hlen : bs.length < 4) {q : Pins} {ps : List Pins}
    {r : Reply} (hreset : q.reset = false) (hv : q.xrspValid = true) (hd : q.device ≠ .ideal)
    (hr : (u.withPins q).onWires = r) :
    runWith ({} :: q :: ps) u = runWith ps (u.afterAngleRead bs r) :=
  (runWith_read rfl h.seq h.inHand (State.AnglePoint.exec_rdangle (u := u.withPins {}) h.point hlen) (h.build ▸ hok.1)
    hreset hv hd hr).trans rfl

/-- A good read brings RDANGLE to the next point. -/
theorem afterGood (h : s.AngleRun bs u) (b : Byte) : s.AngleRun (b :: bs) (u.afterAngleRead bs (.ok b)) := by
  have hcount : u.stepCount + 1 = BitVec.ofNat 3 (bs.length + 1) := by
    rw [h.point.count, BitVec.ofNat_add]; rfl
  exact ⟨rfl, h.inHand, h.build, h.dev, ⟨hcount, rfl⟩, rfl⟩

/-- A failed read ends RDANGLE: STEP counts the good ones only (R151, R154). -/
theorem fails (h : s.AngleRun bs u) (hok : s.build.Ok) (hm : m ≠ .ideal) (hlen : bs.length < 4) (n : Nat) :
    ∃ t, runWith [{}, Pins.bad m n, {}] u = .next t ∧ t.seq = .done ∧ t.stepCount.toNat = bs.length ∧
      t.dev = s.dev ∧ t.rsp = .err (.transport (n % 2 ^ s.build.terrW)) := by
  have hread := h.runWith_next (q := Pins.bad m n) (ps := [{}]) hok hlen rfl rfl hm rfl
  have hcount : u.stepCount.toNat = bs.length := by rw [h.point.count, BitVec.toNat_ofNat]; omega
  refine ⟨_, hread.trans (runWith_move rfl rfl h.inHand (exec_failed rfl nofun rfl)), rfl, hcount, h.dev, ?_⟩
  rw [← h.build]; rfl

/-- With four bytes read, two more moves end RDANGLE with its verdict on them (R90, R97). -/
theorem ends {b : Byte} (h : s.AngleRun (b :: bs) u) (hlen : bs.length = 3) :
    ∃ t, runWith [{}, {}] u = .next t ∧ t.seq = .done ∧ t.dev = s.dev ∧
      t.rsp = if crc8Angle s.build.crcSliceSource (angleComposite bs) = b then .ok (sampleWord b (angleComposite bs))
        else .err (.checksumMismatch (sampleWord b (angleComposite bs))) := by
  obtain ⟨hanswered, hcomposite⟩ := h.point
  rw [hlen] at hanswered
  have hcount : u.stepCount = 4 := hanswered.1
  have hcrc := runWith_move (p := {}) (ps := [{}]) rfl h.seq h.inHand (execRdangle_crc (s := u.withPins {}) hanswered)
  refine ⟨_, hcrc.trans (runWith_move rfl h.seq h.inHand
    ((execRdangle_verdict (by exact hcount) rfl).trans (State.angleVerdict_eq _))), rfl, h.dev, ?_⟩
  rw [← h.build, ← hcomposite]; rfl

end State.AngleRun

/-- Good reads from the acceptance of the request, as long as there are registers to read. -/
theorem angleRun_reads (s : State) (hok : s.build.Ok) (hm : m ≠ .ideal) (hlen : bs.length ≤ 4) :
    ∃ u, s.AngleRun bs u ∧ ∀ ps, runWith (bs.reverse.flatMap (fun b => [{}, Pins.good m b]) ++ ps)
      (s.accept (requestWord .rdangle)).nextPins = runWith ps u := by
  induction bs with
  | nil => exact ⟨_, s.angleRun_accept, fun _ => rfl⟩
  | cons b bs ih =>
    obtain ⟨u, hu, hrun⟩ := ih (Nat.le_of_succ_le hlen)
    refine ⟨_, hu.afterGood b, fun ps => ?_⟩
    rw [List.reverse_cons, List.flatMap_append, List.append_assoc, hrun]
    exact hu.runWith_next (q := Pins.good m b) hok hlen rfl rfl hm rfl

end

/-- Settles O21: good reads, then the verdict or the failed read. -/
theorem angleReadEndsWithItsSample : Obligations.AngleReadEndsWithItsSample := by
  intro s b0 b1 b2 b3 n m hok hb hm
  constructor
  · obtain ⟨u, hu, hrun⟩ := angleRun_reads (bs := [b3, b2, b1, b0]) s hok hm (Nat.le_refl 4)
    obtain ⟨t, ht, hq, hdev, hrsp⟩ := hu.ends rfl
    rw [angleComposite_three] at hrsp
    exact ⟨t, (serve_eq_runWith hb _).trans ((hrun _).trans ht), hq, hdev, hrsp⟩
  · intro k hk
    have hlen : ([b0, b1, b2, b3].take k).reverse.length = k := by simp; omega
    obtain ⟨u, hu, hrun⟩ := angleRun_reads s hok hm (hlen.trans_le hk.le)
    rw [List.reverse_reverse] at hrun
    obtain ⟨t, ht, hq, hcount, hdev, hrsp⟩ := hu.fails hok hm (hlen.trans_lt hk) n
    exact ⟨t, (serve_eq_runWith hb _).trans ((hrun _).trans ht), hq, hcount.trans hlen, hdev, hrsp⟩

end Sys2Proof.Machine
end

section
/-! PROOF. O22 to O30: the parameter accessors (R105 to R123), each read off the line of its shape. What is left of each is
its byte: a field is extracted as a number, and an argument is cut to the width of its field when it is inserted. -/

namespace Sys2Proof.Machine

-- The shapes with one, two and three exchanges (R105, R124).

section
variable {s : State} {b : Byte} {addr addrH addrL : Addr}

theorem State.readOne_start (hs : s.AtStart) (value : Byte → Word) : s.readOne addr value = .next (s.memRead addr) :=
  State.sequence_atStart hs _ _ _

theorem State.readOne_read (h : s.Answered 1 b) (value : Byte → Word) :
    s.readOne addr value = .next (s.returnOk (value b)) :=
  State.sequence_first h _ _ _ _

section
variable {value : Byte → Byte → Word}

theorem State.readPair_start (hs : s.AtStart) : s.readPair addrH addrL value = .next (s.memRead addrH) :=
  State.sequence_atStart hs _ _ _

theorem State.readPair_high (h : s.Answered 1 b) :
    s.readPair addrH addrL value = .next (({ s with tmp := b } : State).memRead addrL) :=
  State.sequence_first h _ _ _ _

theorem State.readPair_low (h : s.Answered 2 b) :
    s.readPair addrH addrL value = .next (s.returnOk (value s.tmp b)) :=
  State.sequence_second h _ _ _ _ _

/-- An operation that is a getter of a pair, point by point (R125). -/
theorem exec_readPair {i : Instr} (h : exec i s = s.readPair addrH addrL value) :
    (s.AtStart → exec i s = .next (s.sent (packFrame s.build.opcRd addrH 0x00))) ∧
    (∀ h, s.Answered 1 h → exec i s = .next ({ s with tmp := h }.sent (packFrame s.build.opcRd addrL 0x00))) ∧
    (∀ l, s.Answered 2 l → ∃ w, exec i s = .next (s.over (.ok (value s.tmp l)) w)) ∧
    (∀ n, s.reply = some (.fail n) → ∃ w, exec i s = .next (s.over (.err (.transport n)) w)) := by
  rw [h]
  exact ⟨State.readPair_start, fun _ => State.readPair_high,
    fun _ hl => ⟨Work.cleared, State.readPair_low hl⟩,
    fun _ hn => ⟨Work.cleared, State.sequence_failed hn _ _ _⟩⟩

end

/-- A setter of a shared register whose argument is in range starts with the read (R79, R83). -/
theorem State.readModifyWrite_start_of_ok {ok : Bool} (hs : s.AtStart) (hok : ok = true) (newByte : Byte → Byte) :
    s.readModifyWrite ok addr newByte = .next (s.memRead addr) :=
  hok ▸ State.readModifyWrite_start hs _ _

section
variable {high : Byte} {low : Byte → Byte}

section
variable (ho : s.build.rmw2Order = .readFirst)
include ho

theorem State.writePair_start_of_readFirst (hs : s.AtStart) :
    s.writePair true addrH addrL high low = .next (s.memRead addrL) := by
  rw [State.writePair, ho]; exact State.sequence_atStart hs _ _ _

theorem State.writePair_first_of_readFirst (ok : Bool) (h : s.Answered 1 b) : s.writePair ok addrH addrL high low =
    .next (({ s with tmp := b, wdh := high, wdl := low b } : State).memWrite addrH high) := by
  rw [State.writePair, ho]; exact State.sequence_first h _ _ _ _

theorem State.writePair_second_of_readFirst (ok : Bool) (h : s.Answered 2 b) :
    s.writePair ok addrH addrL high low = .next (s.memWrite addrL s.wdl) := by
  rw [State.writePair, ho]; exact State.sequence_second h _ _ _ _ _

end

section
variable (ho : s.build.rmw2Order = .writeHighFirst)
include ho

theorem State.writePair_start_of_writeHighFirst (hs : s.AtStart) : s.writePair true addrH addrL high low =
    .next (({ s with wdh := high } : State).memWrite addrH high) := by
  rw [State.writePair, ho]; exact State.sequence_atStart hs _ _ _

theorem State.writePair_first_of_writeHighFirst (ok : Bool) (h : s.Answered 1 b) :
    s.writePair ok addrH addrL high low = .next (s.memRead addrL) := by
  rw [State.writePair, ho]; exact State.sequence_first h _ _ _ _

theorem State.writePair_second_of_writeHighFirst (ok : Bool) (h : s.Answered 2 b) :
    s.writePair ok addrH addrL high low =
      .next (({ s with tmp := b, wdl := low b } : State).memWrite addrL (low b)) := by
  rw [State.writePair, ho]; exact State.sequence_second h _ _ _ _ _

end

/-- Both orders end alike: after the third exchange the setter returns. -/
theorem State.writePair_written (ok : Bool) (h : s.Answered 3 b) :
    s.writePair ok addrH addrL high low = .next (s.returnOk 0) := by
  rw [State.writePair]
  split <;> exact State.sequence_answered (cont := fun _ => .next (s.returnOk 0)) h rfl rfl _ _

/-- An operation that is a two-register setter of a legal value, point by point in both orders (R124). -/
theorem exec_writePair {i : Instr} (h : exec i s = s.writePair true addrH addrL high low) :
    (s.build.rmw2Order = .readFirst →
      (s.AtStart → exec i s = .next (s.sent (packFrame s.build.opcRd addrL 0x00))) ∧
      (∀ old, s.Answered 1 old → exec i s = .next ({ s with tmp := old, wdh := high, wdl := low old }.sent
        (packFrame s.build.opcWr addrH high))) ∧
      (∀ b, s.Answered 2 b → exec i s = .next (s.sent (packFrame s.build.opcWr addrL s.wdl))) ∧
      (∀ b, s.Answered 3 b → ∃ w, exec i s = .next (s.over (.ok 0) w))) ∧
    (s.build.rmw2Order = .writeHighFirst →
      (s.AtStart → exec i s = .next ({ s with wdh := high }.sent (packFrame s.build.opcWr addrH high))) ∧
      (∀ b, s.Answered 1 b → exec i s = .next (s.sent (packFrame s.build.opcRd addrL 0x00))) ∧
      (∀ old, s.Answered 2 old → exec i s = .next ({ s with tmp := old, wdl := low old }.sent
        (packFrame s.build.opcWr addrL (low old)))) ∧
      (∀ b, s.Answered 3 b → ∃ w, exec i s = .next (s.over (.ok 0) w))) := by
  rw [h]
  exact
    ⟨fun ho => ⟨State.writePair_start_of_readFirst ho, fun _ => State.writePair_first_of_readFirst ho true,
      fun _ => State.writePair_second_of_readFirst ho true,
      fun _ hb => ⟨Work.cleared, State.writePair_written true hb⟩⟩,
    fun ho => ⟨State.writePair_start_of_writeHighFirst ho, fun _ => State.writePair_first_of_writeHighFirst ho true,
      fun _ => State.writePair_second_of_writeHighFirst ho true,
      fun _ hb => ⟨Work.cleared, State.writePair_written true hb⟩⟩⟩

end

end

-- The bytes of the accessors: what is extracted is a number, and what is inserted is cut to the width.

section
variable {f : Bitfield} {shift width : Nat}

theorem Bitfield.IsRun.extract_eq_ofNat (h : f.IsRun shift width) (b : Byte) :
    f.extract b = BitVec.ofNat 8 (b.toNat / 2 ^ shift % 2 ^ width) := by
  refine BitVec.eq_of_getLsbD_eq fun j hj => ?_
  rw [h.getLsbD_extract, BitVec.getLsbD_ofNat, Nat.testBit_mod_two_pow, Nat.testBit_div_two_pow, Nat.add_comm]
  simp [hj, BitVec.getLsbD, Bool.and_comm]

/-- What a getter of one register returns (R60, R106). -/
theorem Bitfield.IsRun.setWidth_extract (h : f.IsRun shift width) (b : Byte) :
    (f.extract b).setWidth 32 = BitVec.ofNat 32 (b.toNat / 2 ^ shift % 2 ^ width) := by
  have hlt : b.toNat / 2 ^ shift % 2 ^ width < 2 ^ 8 := by
    have := Nat.div_le_self b.toNat (2 ^ shift)
    have := Nat.mod_le (b.toNat / 2 ^ shift) (2 ^ width)
    omega
  rw [h.extract_eq_ofNat]
  refine BitVec.eq_of_toNat_eq ?_
  rw [BitVec.toNat_setWidth, BitVec.toNat_ofNat, BitVec.toNat_ofNat, Nat.mod_eq_of_lt hlt]

/-- The getter of a field of one bit returns that bit. -/
theorem Bitfield.IsRun.setWidth_extract_bit (h : f.IsRun shift 1) (b : Byte) :
    (f.extract b).setWidth 32 = if b.getLsbD shift then (1 : Word) else 0 := by
  rw [h.setWidth_extract, BitVec.getLsbD, Nat.testBit_eq_decide_div_mod_eq]
  rcases Nat.mod_two_eq_zero_or_one (b.toNat / 2 ^ shift) with hbit | hbit <;> simp [hbit]

/-- A setter cuts its argument to the width of its field (R60). -/
theorem Bitfield.IsRun.insert_argByte (h : f.IsRun shift width) (b : Byte) (v : Word) :
    f.insert b (argByte v) = (b &&& ~~~f.mask) ||| ((v.extractLsb' 0 width).setWidth 8 <<< shift) := by
  have hplace : f.place (argByte v) = (v.extractLsb' 0 width).setWidth 8 <<< shift := by
    refine BitVec.eq_of_getLsbD_eq fun j hj => ?_
    rw [Bitfield.place, BitVec.getLsbD_and, h.getLsbD_mask, h.shift_eq]
    by_cases hlow : j < shift
    · simp [hlow]
    · simp [argByte, hlow, hj, show (shift ≤ j ∧ j < shift + width) ↔ j - shift < width by omega, Bool.and_comm]
  rw [← hplace]; rfl

/-- Any argument but 0 sets the bit (R111, R113). -/
theorem Bitfield.insert_nonzeroBit (f : Bitfield) (b : Byte) (v : Word) :
    f.insert b (nonzeroBit v) = (b &&& ~~~f.mask) ||| (if v = 0 then f.place 0 else f.place 1) := by
  rw [Bitfield.insert, rmwByte, nonzeroBit, apply_ite f.place]

end

theorem fieldAbzOff_isRun : fieldAbzOff.IsRun 1 1 := ⟨rfl, rfl, by decide⟩
theorem fieldAbSwap_isRun : fieldAbSwap.IsRun 0 1 := ⟨rfl, rfl, by decide⟩
theorem fieldZEdge_isRun : fieldZEdge.IsRun 3 1 := ⟨rfl, rfl, by decide⟩
theorem fieldZWidth_isRun : fieldZWidth.IsRun 0 3 := ⟨rfl, rfl, by decide⟩
theorem fieldZPhase_isRun : fieldZPhase.IsRun 6 2 := ⟨rfl, rfl, by decide⟩
theorem fieldAbLead_isRun : fieldAbLead.IsRun 3 1 := ⟨rfl, rfl, by decide⟩

/-- A field that is the whole register is its byte. -/
theorem fieldUserId_extract (b : Byte) : fieldUserId.extract b = b :=
  (BitVec.ushiftRight_zero _).trans BitVec.and_allOnes

/-- `ppr` as a number (R64). -/
theorem pprOf_eq_ofNat (h l : Byte) : pprOf h l = BitVec.ofNat 32 (h.toNat * 64 + l.toNat / 4 + 1) := by
  rw [← (resolutionPacksAndUnpacks.2 h l).1, BitVec.ofNat_toNat, BitVec.setWidth_eq]

/-- The zero position code as a number (R66). -/
theorem setWidth_zposUnpack (h l : Byte) :
    (zposUnpack h l).setWidth 32 = BitVec.ofNat 32 (h.toNat * 16 + l.toNat / 16) := by
  rw [← zposUnpack_toNat, BitVec.ofNat_toNat]

/-- GDIR is a getter of one register like the others: the arm DecodeFailure is dead (R122). -/
theorem execGdir_eq_readOne (s : State) :
    execGdir s = s.readOne s.build.addrHyst fun b => (fieldAbLead.extract b).setWidth 32 := by
  have hmask (b : Byte) : b &&& fieldAbLead.mask = if b.getLsbD 3 then 0x08 else 0x00 := BitVec.and_twoPow b 3
  rw [execGdir, State.readOne]
  congr 2
  funext b
  rw [fieldAbLead_isRun.setWidth_extract_bit, hmask]
  cases b.getLsbD 3 <;> rfl

/-- Settles O22: the whole register, read by GUID and written by SUID. -/
theorem userIdAccessors : Obligations.UserIdAccessors := by
  refine ⟨fun _ => ⟨rfl, rfl⟩, fun s v => ⟨fun hs => State.readOne_start hs _, fun b h => ⟨Work.cleared, ?_⟩,
    fun hs hv => ⟨_, exec_of_badArgument (i := .suid v) hs hv⟩, fun hs hv => ?_,
    fun b h => ⟨Work.cleared, State.writeOne_written h _ _ _⟩, fun n i h hi => ⟨Work.cleared, ?_⟩⟩⟩
  · rw [exec, execGuid, State.readOne_read h, fieldUserId_extract]; rfl
  · rw [exec, execSuid, userIdOk, decide_eq_true hv, State.writeOne_start hs]; rfl
  · rcases hi with rfl | rfl <;> exact exec_failed rfl nofun h

/-- GRES returns the resolution of the two bytes (R64, R108). -/
theorem exec_gres (s : State) : exec .gres s = s.readPair s.build.addrAbzResH s.build.addrAbzResL
    fun h l => BitVec.ofNat 32 (h.toNat * 64 + l.toNat / 4 + 1) := by
  rw [exec, execGres, funext fun h => funext (pprOf_eq_ofNat h)]

/-- GZPOS returns the code of the two bytes (R66, R114). -/
theorem exec_gzpos (s : State) : exec .gzpos s = s.readPair s.build.addrZeroH s.build.addrZeroL
    fun h l => BitVec.ofNat 32 (h.toNat * 16 + l.toNat / 16) := by
  rw [exec, execGzpos, funext fun h => funext (setWidth_zposUnpack h)]

/-- Settles O23: two reads, and their bytes are a resolution. -/
theorem gresReadsHighThenLow : Obligations.GresReadsHighThenLow :=
  ⟨fun _ => rfl, fun s => exec_readPair (exec_gres s)⟩

/-- Settles O26: two reads, and their bytes are a zero position code. -/
theorem gzposReadsHighThenLow : Obligations.GzposReadsHighThenLow :=
  ⟨fun _ => rfl, fun s => exec_readPair (exec_gzpos s)⟩

/-- SRES of a legal resolution writes its two bytes (R63, R109). -/
theorem exec_sres (s : State) {v : Word} (hlo : 1 ≤ v.toNat) (hhi : v.toNat ≤ 16384) :
    exec (.sres v) s = s.writePair true s.build.addrAbzResH s.build.addrAbzResL (BitVec.ofNat 8 ((v.toNat - 1) / 64))
      fun old => BitVec.ofNat 8 ((v.toNat - 1) % 64 * 4) ||| (old &&& 0x03) := by
  have hbytes := fun old => resolutionPacksAndUnpacks.1 v old hlo hhi
  have hlow : resLow (pprStored v) = fun old => BitVec.ofNat 8 ((v.toNat - 1) % 64 * 4) ||| (old &&& 0x03) :=
    funext fun old => (hbytes old).2.1
  rw [exec, execSres, pprOk, decide_eq_true hlo, decide_eq_true hhi, (hbytes 0).1, hlow]
  rfl

/-- SZPOS of a legal angle writes the two bytes of its rounded code (R65, R67, R115). -/
theorem exec_szpos (s : State) {d : Word} {z : Nat} (hnonneg : 0 ≤ d.toInt) (hle : d.toInt ≤ 360 * 2 ^ s.build.degFrac)
    (hz : z = (d.toNat * 4095 + 360 * 2 ^ s.build.degFrac / 2) / (360 * 2 ^ s.build.degFrac)) :
    exec (.szpos d) s = s.writePair true s.build.addrZeroH s.build.addrZeroL (BitVec.ofNat 8 (z / 16))
      fun old => BitVec.ofNat 8 (z % 16 * 16) ||| (old &&& 0x0F) := by
  have hcode : (degToCode s.build.degFrac d).toNat = z := (degToCode_toNat hnonneg hle).trans hz.symm
  have hbytes := zeroCodePacksAndUnpacks.1 (degToCode s.build.degFrac d)
  have hlow : zposLow (degToCode s.build.degFrac d) = fun old => BitVec.ofNat 8 (z % 16 * 16) ||| (old &&& 0x0F) :=
    funext fun old => hcode ▸ (hbytes old).2.1
  rw [exec, execSzpos, (degOk_iff _ d).mpr ⟨hnonneg, hle⟩, (hbytes 0).1, hcode, hlow]

/-- Settles O24: a two-register setter of the stored resolution. -/
theorem sresWritesHighThenLow : Obligations.SresWritesHighThenLow :=
  ⟨fun _ => rfl, fun s v => ⟨fun hs hv => ⟨_, exec_of_badArgument (i := .sres v) hs hv⟩,
    fun _ h => ⟨_, exec_failed rfl nofun h⟩, fun hlo hhi => exec_writePair (exec_sres s hlo hhi)⟩⟩

/-- Settles O27: a two-register setter of the rounded code. -/
theorem szposWritesHighThenLow : Obligations.SzposWritesHighThenLow :=
  ⟨fun _ => rfl, fun s d => ⟨fun hs hd => ⟨_, exec_of_badArgument (i := .szpos d) hs hd⟩,
    fun _ h => ⟨_, exec_failed rfl nofun h⟩, fun hnonneg hle => exec_writePair (exec_szpos s hnonneg hle rfl)⟩⟩

/-- Settles O25: two bits of one register, each read on its own and written with the other bits as read. -/
theorem abzBitAccessors : Obligations.AbzBitAccessors := by
  refine ⟨fun _ => ⟨rfl, rfl, rfl, rfl⟩, fun s v => ⟨fun hs i hi => ?_,
    fun b h => ⟨⟨Work.cleared, ?_⟩, ⟨Work.cleared, ?_⟩, ?_, ?_⟩, fun b i h hi => ⟨Work.cleared, ?_⟩,
    fun n i h hi => ⟨Work.cleared, ?_⟩⟩⟩
  · rcases hi with rfl | rfl | rfl | rfl <;> exact State.sequence_atStart hs _ _ _
  · rw [← fieldAbzOff_isRun.setWidth_extract_bit]; exact State.readOne_read h _
  · rw [← fieldAbSwap_isRun.setWidth_extract_bit]; exact State.readOne_read h _
  · exact (State.readModifyWrite_read h _ _ _).trans (by rw [fieldAbzOff.insert_nonzeroBit]; rfl)
  · exact (State.readModifyWrite_read h _ _ _).trans (by rw [fieldAbSwap.insert_nonzeroBit]; rfl)
  · rcases hi with rfl | rfl <;> exact State.readModifyWrite_written h _ _ _
  · rcases hi with rfl | rfl | rfl | rfl <;> exact exec_failed rfl nofun h

/-- Settles O28: two fields of one register, each read on its own and written with the other bits as read. -/
theorem indexEdgeAndWidthAccessors : Obligations.IndexEdgeAndWidthAccessors := by
  refine ⟨fun _ => ⟨rfl, rfl, rfl, rfl⟩, fun s v => ⟨fun hs hv => ⟨_, exec_of_badArgument (i := .szedge v) hs hv⟩,
    fun hs hv => ⟨_, exec_of_badArgument (i := .szwid v) hs hv⟩, fun hs i hi => ?_,
    fun b h => ⟨⟨Work.cleared, ?_⟩, ⟨Work.cleared, ?_⟩, ?_, ?_⟩, fun b i h hi => ⟨Work.cleared, ?_⟩,
    fun n i h hi => ⟨Work.cleared, ?_⟩⟩⟩
  · rcases hi with rfl | rfl | ⟨rfl, hv⟩ | ⟨rfl, hv⟩
    · exact State.readOne_start hs _
    · exact State.readOne_start hs _
    · exact State.readModifyWrite_start_of_ok hs (decide_eq_true hv) _
    · exact State.readModifyWrite_start_of_ok hs (decide_eq_true hv) _
  · rw [← fieldZEdge_isRun.setWidth_extract_bit]; exact State.readOne_read h _
  · have hvalue := fieldZWidth_isRun.setWidth_extract b
    rw [pow_zero, Nat.div_one] at hvalue
    exact (State.readOne_read h _).trans (by rw [hvalue]; rfl)
  · exact (State.readModifyWrite_read h _ _ _).trans (by rw [fieldZEdge_isRun.insert_argByte]; rfl)
  · have hbyte := fieldZWidth_isRun.insert_argByte b v
    rw [BitVec.shiftLeft_zero] at hbyte
    exact (State.readModifyWrite_read h _ _ _).trans (by rw [hbyte]; rfl)
  · rcases hi with rfl | rfl <;> exact State.readModifyWrite_written h _ _ _
  · rcases hi with rfl | rfl | rfl | rfl <;> exact exec_failed rfl nofun h

/-- Settles O29: the two bits at the top of their register. -/
theorem indexPhaseAccessors : Obligations.IndexPhaseAccessors := by
  refine ⟨fun _ => ⟨rfl, rfl⟩, fun s v => ⟨fun hs => State.readOne_start hs _, fun b h => ⟨Work.cleared, ?_⟩,
    fun hs hv => ⟨_, exec_of_badArgument (i := .szph v) hs hv⟩,
    fun hs hv => State.readModifyWrite_start_of_ok hs (decide_eq_true hv) _, fun b h => ?_,
    fun b h => ⟨Work.cleared, State.readModifyWrite_written h _ _ _⟩, fun n i h hi => ⟨Work.cleared, ?_⟩⟩⟩
  · have hlt : b.toNat / 64 < 2 ^ 2 := Nat.div_lt_of_lt_mul b.isLt
    have hvalue := fieldZPhase_isRun.setWidth_extract b
    rw [show 2 ^ 6 = 64 from rfl, Nat.mod_eq_of_lt hlt] at hvalue
    exact (State.readOne_read h _).trans (by rw [hvalue]; rfl)
  · exact (State.readModifyWrite_read h _ _ _).trans (by rw [fieldZPhase_isRun.insert_argByte]; rfl)
  · rcases hi with rfl | rfl <;> exact exec_failed rfl nofun h

/-- Settles O30: one bit, and its getter has no third arm. -/
theorem abLeadAccessors : Obligations.AbLeadAccessors := by
  refine ⟨fun _ => ⟨rfl, rfl⟩, fun s v => ⟨fun hs => ?_, fun b h => ⟨Work.cleared, ?_⟩,
    fun hs hv => ⟨_, exec_of_badArgument (i := .sdir v) hs hv⟩,
    fun hs hv => State.readModifyWrite_start_of_ok hs (decide_eq_true hv) _, fun b h => ?_,
    fun b h => ⟨Work.cleared, State.readModifyWrite_written h _ _ _⟩, fun n i h hi => ⟨Work.cleared, ?_⟩⟩⟩
  · exact State.sequence_atStart hs _ _ _
  · rw [← fieldAbLead_isRun.setWidth_extract_bit]
    exact (execGdir_eq_readOne s).trans (State.readOne_read h _)
  · exact (State.readModifyWrite_read h _ _ _).trans (by rw [fieldAbLead_isRun.insert_argByte]; rfl)
  · rcases hi with rfl | rfl <;> exact exec_failed rfl nofun h

end Sys2Proof.Machine
end

section
/-! PROOF. O58: two-register setters run under pins given step by step (R124, R152, R178). One exchange is two steps, the
move that sends it and its answer, and it takes the setter from one point of its line to the next, in both orders; what the
device holds at a point is what the exchanges so far have stored. -/

namespace Sys2Proof.Machine

/-- An exchange with a register is sent: a write of `v`, or with `none` a read (R55). -/
def State.send (s : State) (addr : Addr) : Option Byte → State
  | none => s.memRead addr
  | some v => s.memWrite addr v

/-- What the device holds once it has acted on such an exchange (R45, R50). -/
def Memory.stored (m : Memory) (addr : Addr) : Option Byte → Memory
  | none => m
  | some v => Memory.write m addr.toNat v

/-- The state once the ideal device has answered the exchange sent from `s`. -/
def State.sendAnswered (s : State) (addr : Addr) (x : Option Byte) : State :=
  s.nextPins.exchanged (.ok (x.getD (s.deviceByte addr))) (Memory.stored s.dev addr x)
    (if x = none then s.drawsAfterRead addr else s.draws)

/-- The state once the exchange sent from `s` has failed with payload `n`, the device having acted on the frame or not
(R152). -/
def State.sendFailed (s : State) (addr : Addr) (x : Option Byte) (m : DeviceMove) (n : Nat) : State :=
  s.nextPins.exchanged (.fail (n % 2 ^ s.build.terrW)) (if m = .acts then Memory.stored s.dev addr x else s.dev) s.draws

-- One exchange of a run.

/-- A WR answered on the wires is stored if the device acted on it (R152). -/
theorem State.exchange_onWires_wr {s : State} {addr : Addr} (hv : s.pins.xrspValid = true) (hd : s.pins.device ≠ .ideal)
    (hok : s.build.Ok) (ha : addrOk addr = true) (tx : Byte) : s.exchange s.build.opcWr addr tx =
      { s.answeredBy s.onWires with
        dev := if s.pins.device = .acts then Memory.write s.dev addr.toNat tx else s.dev } := by
  obtain ⟨⟨hrw, -⟩, -⟩ := Config.opcs_distinct hok.1
  rw [s.exchange_onWires hv hd, State.deviceActs_dev, if_neg hrw.symm, if_pos rfl, if_pos ha]

section
variable {s t u : State} {i : Instr} {p q : Pins} {ps : List Pins} {addr : Addr} {x : Option Byte} {m : DeviceMove}

/-- The answer to the frame in flight. -/
theorem runWith_answer {f : Frame} (hreset : q.reset = false) (hq : s.seq = .waitX) (hx : s.xout = some f)
    (hd : decodeFrame s.build f = .ok i) (h : exec i (s.withPins q) = .next t) :
    runWith (q :: ps) s = runWith ps t.nextPins :=
  runWith_cons ((step_waitX (s := s.withPins q) hreset hq hx hd).trans (Result.advanced_eq_nextPins h))

variable (hp : p.reset = false) (hq : s.seq = .run) (hi : s.inHand = .ok i)
  (h : exec i (s.withPins p) = .next (u.send addr x)) (hok : u.build.Ok) (ha : addrOk addr = true)
include hp hq hi h hok ha

/-- The exchange is answered by the ideal device. -/
theorem runWith_send_ideal (hreset : q.reset = false) (hv : q.xrspValid = true) (hd : q.device = .ideal) :
    runWith (p :: q :: ps) s = runWith ps (u.sendAnswered addr x) := by
  have hdecode := decodeFrame_packFrame u.build hok.1 addr
  rw [runWith_move hp hq hi h]
  cases x with
  | none =>
    have hanswer := State.exchange_ideal_rd (s := (u.memRead addr).nextPins.withPins q) hv hd hok ha 0
    exact (runWith_answer (s := (u.memRead addr).nextPins) hreset rfl rfl (hdecode 0).1
      (congrArg Host.Outcome.next hanswer)).trans rfl
  | some v =>
    have hanswer := State.exchange_ideal_wr (s := (u.memWrite addr v).nextPins.withPins q) hv hd hok ha v
    exact (runWith_answer (s := (u.memWrite addr v).nextPins) hreset rfl rfl (hdecode v).2.1
      (congrArg Host.Outcome.next hanswer)).trans rfl

/-- The exchange fails on the wires. -/
theorem runWith_send_failed (hm : m ≠ .ideal) (n : Nat) :
    runWith (p :: Pins.bad m n :: ps) s = runWith ps (u.sendFailed addr x m n) := by
  have hdecode := decodeFrame_packFrame u.build hok.1 addr
  rw [runWith_move hp hq hi h]
  cases x with
  | none =>
    have hanswer := State.exchange_onWires_rd (s := (u.memRead addr).nextPins.withPins (Pins.bad m n))
      (addr := addr) rfl hm 0
    rw [State.sendFailed, Memory.stored, ite_self]
    exact (runWith_answer (s := (u.memRead addr).nextPins) rfl rfl rfl (hdecode 0).1
      (congrArg Host.Outcome.next hanswer)).trans rfl
  | some v =>
    have hanswer := State.exchange_onWires_wr (s := (u.memWrite addr v).nextPins.withPins (Pins.bad m n))
      rfl hm hok ha v
    exact (runWith_answer (s := (u.memWrite addr v).nextPins) rfl rfl rfl (hdecode v).2.1
      (congrArg Host.Outcome.next hanswer)).trans rfl

end

-- The points of a two-register setter's line.

/-- The working registers of a state. -/
def State.work (s : State) : Work :=
  { tmp := s.tmp, wdh := s.wdh, wdl := s.wdl, composite := s.composite, crcRx := s.crcRx, crc := s.crc }

/-- A write to one register leaves what the device answers for another. -/
theorem State.deviceByte_sendAnswered (s : State) {addr addr' : Addr} (v : Byte) (hne : addr ≠ addr') :
    (s.sendAnswered addr' (some v)).deviceByte addr = s.deviceByte addr :=
  congrArg (·.getD (Config.freeByte s.draws)) (Memory.read_write_other s.dev v (mt BitVec.eq_of_toNat_eq hne))

theorem State.writePair_failed {s : State} {n : Nat} (h : s.reply = some (.fail n)) (ok : Bool) (addrH addrL : Addr)
    (high : Byte) (low : Byte → Byte) :
    s.writePair ok addrH addrL high low = .next (s.over (.err (.transport n)) Work.cleared) := by
  rw [State.writePair]
  split <;> exact State.sequence_failed h _ _ _

/-- What a two-register setter writes (R124): the high byte, and the low byte made from `old`, the one that is read. -/
structure PairWrite where
  addrH : Addr
  addrL : Addr
  high  : Byte
  low   : Byte → Byte
  old   : Byte

namespace PairWrite

/-- The exchange that follows `k` others, in the order RMW2_ORDER names: the register, and the byte of a write. -/
def exchange (w : PairWrite) : Rmw2Order → Nat → Addr × Option Byte
  | .readFirst, 0 => (w.addrL, none)
  | .readFirst, 1 => (w.addrH, some w.high)
  | .writeHighFirst, 0 => (w.addrH, some w.high)
  | .writeHighFirst, 1 => (w.addrL, none)
  | _, _ => (w.addrL, some (w.low w.old))

/-- What the device holds after `k` exchanges. -/
def devAfter (w : PairWrite) (order : Rmw2Order) (dev : Memory) : Nat → Memory
  | 0 => dev
  | k + 1 => Memory.stored (w.devAfter order dev k) (w.exchange order k).1 (w.exchange order k).2

section
variable (w : PairWrite) (dev : Memory) {k : Nat} (hk : k ≤ 3)
include hk

theorem devAfter_readFirst : w.devAfter .readFirst dev k =
    if k ≤ 1 then dev else if k = 2 then Memory.write dev w.addrH.toNat w.high
    else Memory.write (Memory.write dev w.addrH.toNat w.high) w.addrL.toNat (w.low w.old) := by
  interval_cases k <;> rfl

theorem devAfter_writeHighFirst : w.devAfter .writeHighFirst dev k =
    if k = 0 then dev else if k ≤ 2 then Memory.write dev w.addrH.toNat w.high
    else Memory.write (Memory.write dev w.addrH.toNat w.high) w.addrL.toNat (w.low w.old) := by
  interval_cases k <;> rfl

end

/-- Both orders leave the same two bytes. -/
theorem devAfter_three (w : PairWrite) (order : Rmw2Order) (dev : Memory) : w.devAfter order dev 3 =
    Memory.write (Memory.write dev w.addrH.toNat w.high) w.addrL.toNat (w.low w.old) := by
  cases order <;> rfl

/-- After `k` exchanges the answer to the last of them is in hand. The low register holds `old` until it is read, the read
gives it, and a setter that reads first keeps the byte it makes from it in WDL. -/
def Point (w : PairWrite) (u : State) : Rmw2Order → Nat → Prop
  | _, 0 => u.AtStart ∧ u.deviceByte w.addrL = w.old
  | .readFirst, 1 => u.Answered 1 w.old
  | .writeHighFirst, 1 => (∃ b, u.Answered 1 b) ∧ u.deviceByte w.addrL = w.old
  | .readFirst, 2 => (∃ b, u.Answered 2 b) ∧ u.wdl = w.low w.old
  | .writeHighFirst, 2 => u.Answered 2 w.old
  | _, _ => ∃ b, u.Answered 3 b

/-- Operation `i` is the two-register setter of these bytes, under a build that has both registers (R109, R115). -/
structure Means (w : PairWrite) (i : Instr) (build : Config) : Prop where
  addrH : addrOk w.addrH = true
  addrL : addrOk w.addrL = true
  ne    : w.addrL ≠ w.addrH
  exec  : ∀ u : State, u.build = build → exec i u = u.writePair true w.addrH w.addrL w.high w.low

/-- Operation `i` is in hand between two exchanges, `k` of them after the request was accepted in `s`. -/
structure Run (w : PairWrite) (i : Instr) (s : State) (k : Nat) (u : State) : Prop where
  seq    : u.seq = .run
  inHand : u.inHand = .ok i
  build  : u.build = s.build
  dev    : u.dev = w.devAfter s.build.rmw2Order s.dev k
  point  : w.Point u s.build.rmw2Order k

variable {w : PairWrite} {i : Instr} {s u : State} {order : Rmw2Order} {k : Nat}

theorem Means.addrOk {build : Config} (hw : w.Means i build) {addr : Addr} {x : Option Byte}
    (hx : w.exchange order k = (addr, x)) : addrOk addr = true := by
  have hregister : addr = w.addrH ∨ addr = w.addrL := by
    unfold exchange at hx
    split at hx <;> cases hx <;> simp
  rcases hregister with rfl | rfl
  · exact hw.addrH
  · exact hw.addrL

theorem Point.count : ∀ {order : Rmw2Order} {k : Nat}, w.Point u order k → k ≤ 3 → u.stepCount = BitVec.ofNat 3 k
  | .readFirst, 0, ⟨⟨hcount, _⟩, _⟩, _ => hcount
  | .readFirst, 1, ⟨hcount, _⟩, _ => hcount
  | .readFirst, 2, ⟨⟨_, hcount, _⟩, _⟩, _ => hcount
  | .readFirst, 3, ⟨_, hcount, _⟩, _ => hcount
  | .writeHighFirst, 0, ⟨⟨hcount, _⟩, _⟩, _ => hcount
  | .writeHighFirst, 1, ⟨⟨_, hcount, _⟩, _⟩, _ => hcount
  | .writeHighFirst, 2, ⟨hcount, _⟩, _ => hcount
  | .writeHighFirst, 3, ⟨_, hcount, _⟩, _ => hcount
  | _, k + 4, _, hk => absurd hk (by omega)

/-- After the last exchange its answer is in hand, whatever its byte. -/
theorem Point.answered (h : w.Point u order 3) : ∃ b, u.Answered 3 b := by
  cases order <;> exact h

/-- The pins are no part of a point. -/
theorem Point.withPins (h : w.Point u order k) (hk : k < 3) (p : Pins) : w.Point (u.withPins p) order k := by
  cases order <;> interval_cases k <;> exact h

/-- The next move sends the next exchange, and its good answer brings the setter to the next point. -/
theorem Point.exec_send (h : w.Point u order k) (hk : k < 3) (ho : u.build.rmw2Order = order) (hw : w.Means i u.build)
    {addr : Addr} {x : Option Byte} (hx : w.exchange order k = (addr, x)) : ∃ work,
      exec i u = .next ((u.withWork work).send addr x) ∧
      w.Point ((u.withWork work).sendAnswered addr x) order (k + 1) := by
  have hnext : u.stepCount + 1 = BitVec.ofNat 3 (k + 1) := by rw [h.count hk.le, BitVec.ofNat_add]; rfl
  rw [hw.exec u rfl]
  cases order <;> interval_cases k <;> cases hx
  -- The low register is read first.
  · obtain ⟨hs, hold⟩ := h
    exact ⟨u.work, State.writePair_start_of_readFirst ho hs, hnext, congrArg (fun b => some (Reply.ok b)) hold⟩
  · exact ⟨{ u.work with tmp := w.old, wdh := w.high, wdl := w.low w.old },
      State.writePair_first_of_readFirst ho true h, ⟨_, hnext, rfl⟩, rfl⟩
  · obtain ⟨⟨b, hb⟩, hwdl⟩ := h
    exact ⟨u.work, (State.writePair_second_of_readFirst ho true hb).trans (by rw [hwdl]; rfl), _, hnext, rfl⟩
  -- The high byte is written first.
  · obtain ⟨hs, hold⟩ := h
    exact ⟨{ u.work with wdh := w.high }, State.writePair_start_of_writeHighFirst ho hs, ⟨_, hnext, rfl⟩,
      (State.deviceByte_sendAnswered _ w.high hw.ne).trans hold⟩
  · obtain ⟨⟨b, hb⟩, hold⟩ := h
    exact ⟨u.work, State.writePair_first_of_writeHighFirst ho true hb, hnext,
      congrArg (fun b => some (Reply.ok b)) hold⟩
  · exact ⟨{ u.work with tmp := w.old, wdl := w.low w.old }, State.writePair_second_of_writeHighFirst ho true h,
      _, hnext, rfl⟩

theorem run_accept {req : ReqWord} (hreq : decodeRequest req = .ok i) (hold : s.deviceByte w.addrL = w.old) :
    w.Run i s 0 (s.accept req).nextPins where
  seq := rfl
  inHand := hreq
  build := rfl
  dev := rfl
  point := ⟨⟨rfl, rfl⟩, hold⟩

namespace Run

variable (h : w.Run i s k u) (hok : s.build.Ok) (hw : w.Means i s.build)
include h hok hw

/-- An exchange that the ideal device answers. -/
theorem next (hk : k < 3) {p q : Pins} (hp : p.reset = false) (hreset : q.reset = false) (hv : q.xrspValid = true)
    (hd : q.device = .ideal) : ∃ u', w.Run i s (k + 1) u' ∧ ∀ ps, runWith (p :: q :: ps) u = runWith ps u' := by
  rcases hx : w.exchange s.build.rmw2Order k with ⟨addr, x⟩
  obtain ⟨work, hsend, hpoint⟩ := (h.point.withPins hk p).exec_send hk (congrArg _ h.build) (h.build ▸ hw) hx
  refine ⟨((u.withPins p).withWork work).sendAnswered addr x, ⟨rfl, h.inHand, h.build, ?_, hpoint⟩, fun ps =>
    runWith_send_ideal hp h.seq h.inHand hsend (h.build ▸ hok) (hw.addrOk hx) hreset hv hd⟩
  rw [devAfter, hx, ← h.dev]; rfl

/-- An exchange that fails ends the setter there (R124, R152). -/
theorem fails (hk : k < 3) {m : DeviceMove} (hm : m ≠ .ideal) (n : Nat) :
    ∃ t, runWith [{}, Pins.bad m n, {}] u = .next t ∧ t.seq = .done ∧
      t.rsp = .err (.transport (n % 2 ^ s.build.terrW)) ∧ t.stepCount.toNat = k ∧
      t.dev = w.devAfter s.build.rmw2Order s.dev (if m = .acts then k + 1 else k) := by
  rcases hx : w.exchange s.build.rmw2Order k with ⟨addr, x⟩
  obtain ⟨work, hsend, -⟩ := (h.point.withPins hk {}).exec_send hk (congrArg _ h.build) (h.build ▸ hw) hx
  have hfailed := runWith_send_failed (ps := [{}]) rfl h.seq h.inHand hsend (h.build ▸ hok) (hw.addrOk hx) hm n
  have hend := (hw.exec ((((u.withPins {}).withWork work).sendFailed addr x m n).withPins {}) h.build).trans
    (State.writePair_failed rfl _ _ _ _ _)
  have hcount : u.stepCount.toNat = k := by rw [h.point.count hk.le, BitVec.toNat_ofNat]; omega
  have hdev : w.devAfter s.build.rmw2Order s.dev (if m = .acts then k + 1 else k) =
      if m = .acts then Memory.stored u.dev addr x else u.dev := by
    rw [apply_ite (w.devAfter s.build.rmw2Order s.dev), devAfter, hx, ← h.dev]
  refine ⟨_, hfailed.trans (runWith_move rfl rfl h.inHand hend), rfl, ?_, hcount, hdev.symm⟩
  rw [← h.build]; rfl

omit h in
/-- Exchanges that the ideal device answers, from the acceptance of the request. -/
theorem exists_of_accept {req : ReqWord} (hreq : decodeRequest req = .ok i) (hold : s.deviceByte w.addrL = w.old)
    {p q : Pins} (hp : p.reset = false) (hreset : q.reset = false) (hv : q.xrspValid = true) (hd : q.device = .ideal)
    (hk : k ≤ 3) : ∃ u, w.Run i s k u ∧
      ∀ ps, runWith ((List.replicate k [p, q]).flatten ++ ps) (s.accept req).nextPins = runWith ps u := by
  induction k with
  | zero => exact ⟨_, run_accept hreq hold, fun _ => rfl⟩
  | succ k ih =>
    obtain ⟨u, hu, hrun⟩ := ih (Nat.le_of_succ_le hk)
    obtain ⟨u', hu', hnext⟩ := hu.next hok hw hk hp hreset hv hd
    refine ⟨u', hu', fun ps => ?_⟩
    rw [List.replicate_succ', List.flatten_concat, List.append_assoc, hrun]
    exact hnext ps

end Run

/-- A two-register setter run against the ideal device ends Ok with its two bytes stored, in both orders (R124). -/
theorem serveIdeal_writePair {req : ReqWord} (hok : s.build.Ok) (hb : s.busy = false) (hreq : decodeRequest req = .ok i)
    (hw : w.Means i s.build) (hold : s.deviceByte w.addrL = w.old) : (serveIdeal req s).Reaches
      (State.EndedWith s.build (.ok 0)
        (Memory.write (Memory.write s.dev w.addrH.toNat w.high) w.addrL.toNat (w.low w.old))) := by
  obtain ⟨u, hu, hrun⟩ := Run.exists_of_accept (p := Pins.ideal) (q := Pins.ideal) hok hw hreq hold rfl rfl rfl rfl
    (Nat.le_refl 3)
  obtain ⟨b, hanswered⟩ := hu.point.answered
  have hexec := (hw.exec (u.withPins Pins.ideal) hu.build).trans (State.writePair_written true hanswered)
  have hten : idealRun 10 (s.accept req).nextPins = idealRun 4 u := hrun (List.replicate 4 Pins.ideal)
  rw [serveIdeal_eq_idealRun hb, hten, ← w.devAfter_three s.build.rmw2Order]
  exact idealRun_ended hu.seq hu.inHand hexec hu.build hu.dev

end PairWrite

-- The two setters.

/-- SRES of a legal value over the low byte `old` (R109). -/
def sresWrite (c : Config) (v : Word) (old : Byte) : PairWrite where
  addrH := c.addrAbzResH
  addrL := c.addrAbzResL
  high  := BitVec.ofNat 8 ((v.toNat - 1) / 64)
  low b := BitVec.ofNat 8 ((v.toNat - 1) % 64 * 4) ||| (b &&& 0x03)
  old   := old

/-- SZPOS of the code `z` over the low byte `old` (R115). -/
def szposWrite (c : Config) (z : Nat) (old : Byte) : PairWrite where
  addrH := c.addrZeroH
  addrL := c.addrZeroL
  high  := BitVec.ofNat 8 (z / 16)
  low b := BitVec.ofNat 8 (z % 16 * 16) ||| (b &&& 0x0F)
  old   := old

/-- The registers RPC names are registers of the device (R7, R27). -/
theorem addrOk_of_mem_registers {c : Config} (hok : c.Ok) {addr : Addr} (h : addr ∈ c.registers) : addrOk addr = true := by
  obtain ⟨-, -, hmax, -⟩ := hok
  exact (addrOk_iff addr).mpr (hmax addr h)

/-- The low register of a pair is the one after the high one (R7). -/
theorem addr_ne_of_toNat_eq_succ {addr addr' : Addr} (h : addr.toNat = addr'.toNat + 1) : addr ≠ addr' := by
  rintro rfl; omega

section
variable {c : Config} (hok : c.Ok)
include hok

theorem sresWrite_means {v : Word} (hlo : 1 ≤ v.toNat) (hhi : v.toNat ≤ 16384) (old : Byte) :
    (sresWrite c v old).Means (.sres v) c where
  addrH := addrOk_of_mem_registers hok (by simp [sresWrite, Config.registers])
  addrL := addrOk_of_mem_registers hok (by simp [sresWrite, Config.registers])
  ne := by
    obtain ⟨-, -, -, -, hpair, -⟩ := hok
    exact addr_ne_of_toNat_eq_succ hpair
  exec := fun u hu => (exec_sres u hlo hhi).trans (by rw [hu]; rfl)

theorem szposWrite_means {d : Word} {z : Nat} (hnonneg : 0 ≤ d.toInt) (hle : d.toInt ≤ 360 * 2 ^ c.degFrac)
    (hz : z = (d.toNat * 4095 + 360 * 2 ^ c.degFrac / 2) / (360 * 2 ^ c.degFrac)) (old : Byte) :
    (szposWrite c z old).Means (.szpos d) c where
  addrH := addrOk_of_mem_registers hok (by simp [szposWrite, Config.registers])
  addrL := addrOk_of_mem_registers hok (by simp [szposWrite, Config.registers])
  ne := by
    obtain ⟨-, -, -, -, -, hpair⟩ := hok
    exact addr_ne_of_toNat_eq_succ hpair
  exec := by
    rintro u rfl
    exact exec_szpos u hnonneg hle hz

end

/-- Settles O58: good exchanges to the failed one, whose frame the device acted on or not. -/
theorem failedPairSetterLeavesTheCompletedExchanges : Obligations.FailedPairSetterLeavesTheCompletedExchanges := by
  intro s i aH aL high low old k n m hok hb hm hk hread hi
  obtain ⟨w, hw, hreq, rfl, rfl, rfl, rfl, rfl⟩ : ∃ w : PairWrite, w.Means i s.build ∧
      decodeRequest (requestWord i) = .ok i ∧ w.addrH = aH ∧ w.addrL = aL ∧ w.high = high ∧ w.old = old ∧
      w.low w.old = low := by
    rcases hi with ⟨v, rfl, rfl, rfl, hlo, hhi, rfl, rfl⟩ | ⟨d, z, rfl, rfl, rfl, hnonneg, hle, hz, rfl, rfl⟩
    · exact ⟨sresWrite s.build v old, sresWrite_means hok hlo hhi old, decodeRequest_requestWord (i := .sres v) rfl,
        rfl, rfl, rfl, rfl, rfl⟩
    · exact ⟨szposWrite s.build z old, szposWrite_means hok hnonneg hle hz old,
        decodeRequest_requestWord (i := .szpos d) rfl, rfl, rfl, rfl, rfl, rfl⟩
  have hold : s.deviceByte w.addrL = w.old := by rw [State.deviceByte, hread]; rfl
  obtain ⟨u, hu, hrun⟩ := PairWrite.Run.exists_of_accept (p := {}) (q := { xrspValid := true, device := .ideal })
    hok hw hreq hold rfl rfl rfl rfl hk.le
  obtain ⟨t, ht, hq, hrsp, hcount, hdev⟩ := hu.fails hok hw hk hm n
  have hj : (if m = .acts then k + 1 else k) ≤ 3 := by split <;> omega
  refine ⟨t, (serve_eq_runWith hb _).trans ((hrun _).trans ht), hq, hrsp, hcount, hdev.trans ?_⟩
  cases s.build.rmw2Order with
  | readFirst => exact w.devAfter_readFirst s.dev hj
  | writeHighFirst => exact w.devAfter_writeHighFirst s.dev hj

end Sys2Proof.Machine
end

section
/-! PROOF. O56, O57: setters and getters against the ideal device (R126, R127). A parameter is some bits of the registers
that hold it (R62). A setter writes those registers and keeps their other bits, a getter returns what the parameter's bits
say, and the bits of two parameters are disjoint. -/

namespace Sys2Proof.Machine

-- The registers of the parameters (R27, R62).

/-- The registers that hold a parameter. -/
inductive ParamReg where
  | userId
  | resHigh
  | resLow
  | zeroHigh
  | zeroLow
  | uvwCfg
  | hyst
  deriving DecidableEq, Repr

namespace ParamReg

def addr (c : Config) : ParamReg → Addr
  | userId => c.addrUserId
  | resHigh => c.addrAbzResH
  | resLow => c.addrAbzResL
  | zeroHigh => c.addrZeroH
  | zeroLow => c.addrZeroL
  | uvwCfg => c.addrUvwCfg
  | hyst => c.addrHyst

def all : List ParamReg := [userId, resHigh, resLow, zeroHigh, zeroLow, uvwCfg, hyst]

theorem mem_all (r : ParamReg) : r ∈ all := by cases r <;> decide

/-- They stand in the list of the registers RPC names, with the angle registers between them. -/
theorem map_addr_sublist (c : Config) : (all.map (addr c)).Sublist c.registers :=
  .cons_cons _ (.cons _ (.cons _ (.cons _ (.cons _ (.refl _)))))

theorem addr_mem_registers (c : Config) (r : ParamReg) : r.addr c ∈ c.registers :=
  (map_addr_sublist c).subset (List.mem_map_of_mem r.mem_all)

theorem addrOk_addr {c : Config} (hok : c.Ok) (r : ParamReg) : addrOk (r.addr c) = true :=
  addrOk_of_mem_registers hok (r.addr_mem_registers c)

theorem addr_injective {c : Config} (hok : c.Ok) : Function.Injective (addr c) := by
  obtain ⟨-, hnodup, -⟩ := hok
  exact fun r r' h => List.inj_on_of_nodup_map ((map_addr_sublist c).nodup hnodup) r.mem_all r'.mem_all h

end ParamReg

/-- What the device is known to hold in a register. -/
def Memory.byteAt (m : Memory) (c : Config) (r : ParamReg) : Option Byte := Memory.read m (r.addr c).toNat

theorem Memory.byteAt_write {c : Config} (hok : c.Ok) (m : Memory) (r r' : ParamReg) (b : Byte) :
    (Memory.write m (r.addr c).toNat b).byteAt c r' = if r' = r then some b else m.byteAt c r' := by
  split
  · next h => rw [h]; exact Memory.read_write_same _ _ _
  · next h =>
    exact Memory.read_write_other _ _ fun heq => h (ParamReg.addr_injective hok (BitVec.eq_of_toNat_eq heq))

/-- The registers known in `m` are known in `m'`, with the same bits under the masks. -/
def Memory.AgreeOn (c : Config) (mask : ParamReg → Byte) (m m' : Memory) : Prop :=
  ∀ r x, m.byteAt c r = some x → ∃ y, m'.byteAt c r = some y ∧ y &&& mask r = x &&& mask r

section
variable {c : Config} {mask mask' : ParamReg → Byte} {m m' : Memory}

theorem Memory.AgreeOn.refl (c : Config) (mask : ParamReg → Byte) (m : Memory) : Memory.AgreeOn c mask m m :=
  fun _ x hx => ⟨x, hx, rfl⟩

/-- A write that keeps the bits under the mask. -/
theorem Memory.AgreeOn.write (hok : c.Ok) (h : Memory.AgreeOn c mask m m') {r : ParamReg} {b : Byte}
    (hb : ∀ x, m.byteAt c r = some x → b &&& mask r = x &&& mask r) :
    Memory.AgreeOn c mask m (Memory.write m' (r.addr c).toNat b) := by
  intro r' x hx
  rw [Memory.byteAt_write hok]
  by_cases hr : r' = r
  · subst hr
    exact ⟨b, if_pos rfl, hb x hx⟩
  · rw [if_neg hr]
    exact h r' x hx

/-- Agreement under a mask gives agreement under a part of it. -/
theorem Memory.AgreeOn.mono (h : Memory.AgreeOn c mask m m') (hmask : ∀ r, mask' r &&& mask r = mask' r) :
    Memory.AgreeOn c mask' m m' := by
  intro r x hx
  obtain ⟨y, hy, hbits⟩ := h r x hx
  refine ⟨y, hy, ?_⟩
  rw [← hmask r, BitVec.and_comm (mask' r), ← BitVec.and_assoc, ← BitVec.and_assoc, hbits]

end

-- The bits of the parameters (R62).

/-- The bits under a mask that is the whole byte are the byte. -/
theorem eq_of_and_whole {b b' : Byte} (h : b &&& 0xFF = b' &&& 0xFF) : b = b' := by
  have hwhole (x : Byte) : x &&& 0xFF = x := BitVec.and_allOnes
  rwa [hwhole, hwhole] at h

/-- Such a mask leaves no bit outside. -/
theorem and_not_congr_of_whole {mask b b' : Byte} (h : mask = 0xFF) : b &&& ~~~mask = b' &&& ~~~mask := by
  simp [h]

theorem Bitfield.extract_congr {f : Bitfield} {b b' : Byte} (h : b &&& f.mask = b' &&& f.mask) :
    f.extract b = f.extract b' := by
  rw [Bitfield.extract, Bitfield.extract, h]

namespace Param

/-- The registers that hold a parameter, the high one of a pair first (R62). -/
def registers : Param → List ParamReg
  | userId => [.userId]
  | resolution => [.resHigh, .resLow]
  | abzOff => [.resLow]
  | abSwap => [.resLow]
  | zeroPosition => [.zeroHigh, .zeroLow]
  | zEdge => [.zeroLow]
  | zWidth => [.zeroLow]
  | zPhase => [.uvwCfg]
  | abLead => [.hyst]

/-- The bits of a parameter in a register (R62). -/
def mask : Param → ParamReg → Byte
  | userId, .userId => fieldUserId.mask
  | resolution, .resHigh => fieldResHi.mask
  | resolution, .resLow => fieldResLo.mask
  | abzOff, .resLow => fieldAbzOff.mask
  | abSwap, .resLow => fieldAbSwap.mask
  | zeroPosition, .zeroHigh => fieldZposHi.mask
  | zeroPosition, .zeroLow => fieldZposLo.mask
  | zEdge, .zeroLow => fieldZEdge.mask
  | zWidth, .zeroLow => fieldZWidth.mask
  | zPhase, .uvwCfg => fieldZPhase.mask
  | abLead, .hyst => fieldAbLead.mask
  | _, _ => 0

/-- What a getter returns of the bytes of the registers (R106 to R122). -/
def value : Param → (ParamReg → Byte) → Word
  | userId, bytes => (fieldUserId.extract (bytes .userId)).setWidth 32
  | resolution, bytes => pprOf (bytes .resHigh) (bytes .resLow)
  | abzOff, bytes => (fieldAbzOff.extract (bytes .resLow)).setWidth 32
  | abSwap, bytes => (fieldAbSwap.extract (bytes .resLow)).setWidth 32
  | zeroPosition, bytes => (zposUnpack (bytes .zeroHigh) (bytes .zeroLow)).setWidth 32
  | zEdge, bytes => (fieldZEdge.extract (bytes .zeroLow)).setWidth 32
  | zWidth, bytes => (fieldZWidth.extract (bytes .zeroLow)).setWidth 32
  | zPhase, bytes => (fieldZPhase.extract (bytes .uvwCfg)).setWidth 32
  | abLead, bytes => (fieldAbLead.extract (bytes .hyst)).setWidth 32

def all : List Param :=
  [userId, resolution, abzOff, abSwap, zeroPosition, zEdge, zWidth, zPhase, abLead]

theorem mem_all (p : Param) : p ∈ all := by cases p <;> decide

/-- The table is closed: two parameters have no bit in common. -/
theorem mask_and_not_mask {p q : Param} (h : p ≠ q) (r : ParamReg) : q.mask r &&& ~~~p.mask r = q.mask r := by
  have htable : ∀ p ∈ all, ∀ q ∈ all, p ≠ q → ∀ r ∈ ParamReg.all, q.mask r &&& ~~~p.mask r = q.mask r := by decide
  exact htable p p.mem_all q q.mem_all h r r.mem_all

/-- The value is in the parameter's own bits. -/
theorem value_congr (p : Param) {bytes bytes' : ParamReg → Byte}
    (h : ∀ r ∈ p.registers, bytes r &&& p.mask r = bytes' r &&& p.mask r) : p.value bytes = p.value bytes' := by
  cases p with
  | userId | abzOff | abSwap | zEdge | zWidth | zPhase | abLead =>
    exact congrArg (BitVec.setWidth 32) (Bitfield.extract_congr (h _ (List.mem_singleton_self _)))
  | resolution =>
    have hhigh := eq_of_and_whole (h .resHigh (by decide))
    have hlow := Bitfield.extract_congr (f := fieldResLo) (h .resLow (by decide))
    rw [value, value, pprOf, pprOf, resUnpack, resUnpack, hhigh, hlow]
  | zeroPosition =>
    have hhigh := eq_of_and_whole (h .zeroHigh (by decide))
    have hlow := Bitfield.extract_congr (f := fieldZposLo) (h .zeroLow (by decide))
    rw [value, value, zposUnpack, zposUnpack, hhigh, hlow]

end Param

-- The shapes of the accessors against the ideal device.

theorem State.deviceByte_of_read {s : State} {addr : Addr} {b : Byte} (h : Memory.read s.dev addr.toNat = some b) :
    s.deviceByte addr = b := by
  rw [State.deviceByte, h]; rfl

/-- A read of a register that holds a known byte draws no free one. -/
theorem idealRun_read_known {s u : State} {i : Instr} {n : Nat} {addr : Addr} {P : State → Prop} {b : Byte}
    (hq : s.seq = .run) (hi : s.inHand = .ok i) (h : exec i (s.withPins Pins.ideal) = .next (u.memRead addr))
    (hok : u.build.Ok) (ha : addrOk addr = true) (hread : Memory.read u.dev addr.toNat = some b)
    (hrest : (idealRun n (u.nextPins.exchanged (.ok b) u.dev u.draws)).Reaches P) : (idealRun (n + 2) s).Reaches P := by
  have hdraws : u.drawsAfterRead addr = u.draws := by rw [State.drawsAfterRead, hread]; rfl
  refine idealRun_read hq hi h hok ha ?_
  rw [State.deviceByte_of_read hread, hdraws]
  exact hrest

section
variable {s : State} {i : Instr} {req : ReqWord} {addr addrH addrL : Addr} (hok : s.build.Ok) (hb : s.busy = false)
  (hreq : decodeRequest req = .ok i)
include hok hb hreq

theorem serveIdeal_readOne (ha : addrOk addr = true) {b : Byte} (hread : Memory.read s.dev addr.toNat = some b)
    {value : Byte → Word} (hexec : ∀ u : State, u.build = s.build → exec i u = u.readOne addr value) :
    (serveIdeal req s).Reaches (State.EndedWith s.build (.ok (value b)) s.dev) := by
  have hi : (s.accept req).nextPins.inHand = .ok i := hreq
  rw [serveIdeal_eq_idealRun hb]
  refine idealRun_read_known rfl hi (Eq.trans (hexec _ (by rfl)) (State.readOne_start ⟨by rfl, by rfl⟩ _)) hok ha
    hread ?_
  exact idealRun_ended rfl hi (Eq.trans (hexec _ (by rfl)) (State.readOne_read ⟨by rfl, by rfl⟩ _)) rfl rfl

theorem serveIdeal_readPair (haH : addrOk addrH = true) (haL : addrOk addrL = true) {h l : Byte}
    (hreadH : Memory.read s.dev addrH.toNat = some h) (hreadL : Memory.read s.dev addrL.toNat = some l)
    {value : Byte → Byte → Word} (hexec : ∀ u : State, u.build = s.build → exec i u = u.readPair addrH addrL value) :
    (serveIdeal req s).Reaches (State.EndedWith s.build (.ok (value h l)) s.dev) := by
  have hi : (s.accept req).nextPins.inHand = .ok i := hreq
  rw [serveIdeal_eq_idealRun hb]
  refine idealRun_read_known rfl hi (Eq.trans (hexec _ (by rfl)) (State.readPair_start ⟨by rfl, by rfl⟩)) hok haH
    hreadH ?_
  refine idealRun_read_known rfl hi (Eq.trans (hexec _ (by rfl)) (State.readPair_high ⟨by rfl, by rfl⟩)) hok haL
    hreadL ?_
  exact idealRun_ended rfl hi (Eq.trans (hexec _ (by rfl)) (State.readPair_low ⟨by rfl, by rfl⟩)) rfl rfl

theorem serveIdeal_writeOne (ha : addrOk addr = true) {v : Byte}
    (hexec : ∀ u : State, u.build = s.build → exec i u = u.writeOne true addr v) :
    (serveIdeal req s).Reaches (State.EndedWith s.build (.ok 0) (Memory.write s.dev addr.toNat v)) := by
  have hi : (s.accept req).nextPins.inHand = .ok i := hreq
  rw [serveIdeal_eq_idealRun hb]
  refine idealRun_write rfl hi (Eq.trans (hexec _ (by rfl)) (State.writeOne_start ⟨by rfl, by rfl⟩ _ _)) hok ha ?_
  exact idealRun_ended rfl hi (Eq.trans (hexec _ (by rfl)) (State.writeOne_written ⟨by rfl, by rfl⟩ _ _ _)) rfl rfl

omit hok in
theorem serveIdeal_refused (hbad : badArgument s.build i) :
    (serveIdeal req s).Reaches (State.EndedWith s.build (.err .invalidArgument) s.dev) := by
  have hi : (s.accept req).nextPins.inHand = .ok i := hreq
  rw [serveIdeal_eq_idealRun hb]
  exact idealRun_ended rfl hi (exec_of_badArgument ⟨rfl, rfl⟩ hbad) rfl rfl

end

-- The getters.

theorem getterOf_isWire {g : Instr} {q : Param} (hq : getterOf g = some q) : g.isWire = false := by
  cases g with
  | wireRd | wireWr | wireZero | wireProg | wireBurst => cases hq
  | _ => rfl

section
variable {s : State} {g : Instr} {q : Param} (hok : s.build.Ok) (hb : s.busy = false) (hq : getterOf g = some q)
include hok hb hq

/-- A getter returns what the bytes of its parameter's registers say (R106 to R122). -/
theorem serveIdeal_getter {bytes : ParamReg → Byte} (hbytes : ∀ r ∈ q.registers, s.dev.byteAt s.build r = some (bytes r)) :
    (serveIdeal (requestWord g) s).Reaches (State.EndedWith s.build (.ok (q.value bytes)) s.dev) := by
  have hreq := decodeRequest_requestWord (getterOf_isWire hq)
  cases g with
  | guid | gabz | gswap | gzedge | gzwid | gzph =>
    cases hq
    exact serveIdeal_readOne (value := fun b => (Bitfield.extract _ b).setWidth 32) hok hb hreq
      (ParamReg.addrOk_addr hok _) (hbytes _ (List.mem_singleton_self _)) fun u hu => by rw [← hu]; rfl
  | gdir =>
    cases hq
    exact serveIdeal_readOne (value := fun b => (Bitfield.extract _ b).setWidth 32) hok hb hreq
      (ParamReg.addrOk_addr hok _) (hbytes _ (List.mem_singleton_self _)) fun u hu => by
        rw [← hu]; exact execGdir_eq_readOne u
  | gres =>
    cases hq
    exact serveIdeal_readPair (value := pprOf) hok hb hreq (ParamReg.addrOk_addr hok .resHigh)
      (ParamReg.addrOk_addr hok .resLow) (hbytes _ (by decide)) (hbytes _ (by decide)) fun u hu => by rw [← hu]; rfl
  | gzpos =>
    cases hq
    exact serveIdeal_readPair (value := fun h l => (zposUnpack h l).setWidth 32) hok hb hreq
      (ParamReg.addrOk_addr hok .zeroHigh) (ParamReg.addrOk_addr hok .zeroLow) (hbytes _ (by decide))
      (hbytes _ (by decide)) fun u hu => by rw [← hu]; rfl
  | _ => cases hq

end

-- The setters.

theorem setterOf_isWire {i : Instr} {p : Param} (hp : setterOf i = some p) : i.isWire = false := by
  cases i with
  | wireRd | wireWr | wireZero | wireProg | wireBurst => cases hp
  | _ => rfl

/-- From `m` a setter of `p` has made `m'`: the registers of `p` hold `bytes`, and the bits that are not of `p` are as
before. -/
structure Param.Written (p : Param) (c : Config) (m m' : Memory) (bytes : ParamReg → Byte) : Prop where
  known : ∀ r ∈ p.registers, m'.byteAt c r = some (bytes r)
  keeps : Memory.AgreeOn c (fun r => ~~~p.mask r) m m'

/-- The value a setter sets, as its getter returns it (R126). -/
def settingOf (c : Config) : Instr → Word
  | .sabz v | .sswap v => if v = 0 then 0 else 1
  | .szpos d => BitVec.ofNat 32 ((d.toNat * 4095 + 360 * 2 ^ c.degFrac / 2) / (360 * 2 ^ c.degFrac))
  | .suid v | .sres v | .szedge v | .szwid v | .szph v | .sdir v => v
  | _ => 0

/-- A run of setter `i` from `s` ends Ok with parameter `p` set. -/
def State.Sets (s : State) (i : Instr) (p : Param) : Prop :=
  ∃ m bytes, (serveIdeal (requestWord i) s).Reaches (State.EndedWith s.build (.ok 0) m) ∧
    p.Written s.build s.dev m bytes ∧ p.value bytes = settingOf s.build i

section
variable {c : Config} {p : Param} {r r' : ParamReg} {m : Memory} {b b' : Byte} (hok : c.Ok)
include hok

theorem Param.written_one (hregisters : p.registers = [r])
    (hb : ∀ x, m.byteAt c r = some x → b &&& ~~~p.mask r = x &&& ~~~p.mask r) :
    p.Written c m (Memory.write m (r.addr c).toNat b) (fun _ => b) where
  known := by
    rw [hregisters, List.forall_mem_singleton, Memory.byteAt_write hok, if_pos rfl]
  keeps := (Memory.AgreeOn.refl c _ m).write hok hb

theorem Param.written_pair (hregisters : p.registers = [r, r']) (hne : r ≠ r') (hwhole : p.mask r = 0xFF)
    (hb : ∀ x, m.byteAt c r' = some x → b' &&& ~~~p.mask r' = x &&& ~~~p.mask r') :
    p.Written c m (Memory.write (Memory.write m (r.addr c).toNat b) (r'.addr c).toNat b')
      (fun x => if x = r then b else b') where
  known := by
    rw [hregisters, List.forall_mem_cons, List.forall_mem_singleton, Memory.byteAt_write hok, Memory.byteAt_write hok,
      Memory.byteAt_write hok, if_neg hne, if_pos rfl, if_pos rfl, if_pos rfl, if_neg hne.symm]
    exact ⟨rfl, rfl⟩
  keeps := ((Memory.AgreeOn.refl c _ m).write hok fun _ _ => and_not_congr_of_whole hwhole).write hok hb

end

theorem argByte_toNat {v : Word} (h : v.toNat < 2 ^ 8) : (argByte v).toNat = v.toNat := by
  rw [argByte, BitVec.extractLsb'_toNat, Nat.shiftRight_zero, Nat.mod_eq_of_lt h]

theorem setWidth_argByte {v : Word} (h : v.toNat < 2 ^ 8) : (argByte v).setWidth 32 = v :=
  BitVec.eq_of_toNat_eq ((BitVec.toNat_setWidth_of_le (by decide)).trans (argByte_toNat h))

theorem nonzeroBit_lt (v : Word) : (nonzeroBit v).toNat < 2 ^ 1 := by
  rw [nonzeroBit]; split <;> decide

theorem setWidth_nonzeroBit (v : Word) : (nonzeroBit v).setWidth 32 = if v = 0 then (0 : Word) else 1 := by
  rw [nonzeroBit]; split <;> rfl

/-- Parameter `p` is the field `f` of one register (R62). -/
structure Param.IsField (p : Param) (r : ParamReg) (f : Bitfield) : Prop where
  registers : p.registers = [r]
  mask      : p.mask r = f.mask
  value     : ∀ bytes, p.value bytes = (f.extract (bytes r)).setWidth 32

section
variable {s : State} {i : Instr} {p : Param} (hok : s.build.Ok) (hb : s.busy = false)
include hok hb

/-- The setter of a field of a shared register (R83). -/
theorem State.sets_field {r : ParamReg} {f : Bitfield} {shift width : Nat} {v : Byte} (hi : i.isWire = false)
    (hp : p.IsField r f) (hrun : f.IsRun shift width) (hv : v.toNat < 2 ^ width)
    (hsetting : v.setWidth 32 = settingOf s.build i)
    (hexec : ∀ u : State, u.build = s.build →
      exec i u = u.readModifyWrite true (r.addr s.build) fun b => f.insert b v) : s.Sets i p := by
  refine ⟨_, _, serveIdeal_readModifyWrite hok hb (decodeRequest_requestWord hi) (r.addrOk_addr hok) hexec,
    Param.written_one hok hp.registers fun x hx => ?_, ?_⟩
  · rw [State.deviceByte_of_read hx, hp.mask, f.insert_and_not_mask]
  · rw [hp.value, hrun.extract_insert _ hv, hsetting]

/-- The same with an argument that is checked to fit its field. -/
theorem State.sets_argByte {r : ParamReg} {f : Bitfield} {shift width : Nat} {v : Word} (hi : i.isWire = false)
    (hp : p.IsField r f) (hrun : f.IsRun shift width) (hv : v.toNat < 2 ^ width)
    (hsetting : v = settingOf s.build i)
    (hexec : ∀ u : State, u.build = s.build →
      exec i u = u.readModifyWrite true (r.addr s.build) fun b => f.insert b (argByte v)) : s.Sets i p := by
  have hfits : v.toNat < 2 ^ 8 :=
    hv.trans_le (Nat.pow_le_pow_right two_pos ((Nat.le_add_left width shift).trans hrun.fits))
  exact State.sets_field hok hb hi hp hrun (argByte_toNat hfits ▸ hv) ((setWidth_argByte hfits).trans hsetting) hexec

/-- The setter of a parameter in two registers (R124). -/
theorem State.sets_pair {r r' : ParamReg} {w : PairWrite} (hi : i.isWire = false) (hw : w.Means i s.build)
    (hH : w.addrH = r.addr s.build) (hL : w.addrL = r'.addr s.build) (hold : s.deviceByte w.addrL = w.old)
    (hregisters : p.registers = [r, r']) (hne : r ≠ r') (hwhole : p.mask r = 0xFF)
    (hkeeps : ∀ b, w.low b &&& ~~~p.mask r' = b &&& ~~~p.mask r')
    (hvalue : p.value (fun x => if x = r then w.high else w.low w.old) = settingOf s.build i) : s.Sets i p := by
  have hrun := w.serveIdeal_writePair hok hb (decodeRequest_requestWord hi) hw hold
  rw [hH, hL] at hrun
  refine ⟨_, _, hrun, Param.written_pair hok hregisters hne hwhole fun x hx => ?_, hvalue⟩
  rw [← hold, hL, State.deviceByte_of_read hx, hkeeps]

/-- A setter whose argument is in range sets its parameter (R126). -/
theorem State.sets_of_setterOf (hp : setterOf i = some p) (hgood : ¬ badArgument s.build i) : s.Sets i p := by
  have hi := setterOf_isWire hp
  cases i with
  | suid v =>
    cases hp
    have hv : v.toNat ≤ 255 := Nat.le_of_not_lt hgood
    refine ⟨_, _, serveIdeal_writeOne (v := argByte v) hok hb (decodeRequest_requestWord hi)
      (ParamReg.addrOk_addr hok .userId) fun u hu => ?_, Param.written_one hok rfl fun x _ => ?_, ?_⟩
    · rw [exec, execSuid, userIdOk, decide_eq_true hv, hu]; rfl
    · exact and_not_congr_of_whole rfl
    · rw [Param.value, fieldUserId_extract]
      exact setWidth_argByte (Nat.lt_succ_of_le hv)
  | sres v =>
    cases hp
    obtain ⟨hlo, hhi⟩ : 1 ≤ v.toNat ∧ v.toNat ≤ 16384 := by
      simpa [badArgument, Nat.one_le_iff_ne_zero] using hgood
    have hbytes (old : Byte) := resolutionPacksAndUnpacks.1 v old hlo hhi
    refine State.sets_pair (r := .resHigh) (r' := .resLow) hok hb hi (sresWrite_means hok hlo hhi (s.deviceByte _)) rfl rfl
      rfl rfl (by decide) rfl (fun b => ?_) ?_
    · obtain ⟨-, hlow, -, hkeep⟩ := hbytes b
      rw [hlow] at hkeep
      exact hkeep
    · obtain ⟨hhigh, hlow, hround, -⟩ := hbytes (s.deviceByte s.build.addrAbzResL)
      rw [hhigh, hlow] at hround
      exact hround
  | szpos d =>
    cases hp
    obtain ⟨hnonneg, hle⟩ : 0 ≤ d.toInt ∧ d.toInt ≤ 360 * 2 ^ s.build.degFrac := by simpa [badArgument] using hgood
    have hcode : (degToCode s.build.degFrac d).toNat =
        (d.toNat * 4095 + 360 * 2 ^ s.build.degFrac / 2) / (360 * 2 ^ s.build.degFrac) := degToCode_toNat hnonneg hle
    have hbytes := zeroCodePacksAndUnpacks.1 (degToCode s.build.degFrac d)
    refine State.sets_pair (r := .zeroHigh) (r' := .zeroLow) hok hb hi (szposWrite_means hok hnonneg hle hcode
      (s.deviceByte _)) rfl rfl rfl rfl (by decide) rfl (fun b => ?_) ?_
    · obtain ⟨-, hlow, -, hkeep⟩ := hbytes b
      rw [hlow] at hkeep
      exact hkeep
    · obtain ⟨hhigh, hlow, hround, -⟩ := hbytes (s.deviceByte s.build.addrZeroL)
      rw [hhigh, hlow] at hround
      rw [settingOf, ← hcode, BitVec.ofNat_toNat]
      exact congrArg (BitVec.setWidth 32) hround
  | sabz v =>
    cases hp
    exact State.sets_field hok hb hi ⟨rfl, rfl, fun _ => rfl⟩ fieldAbzOff_isRun (nonzeroBit_lt v) (setWidth_nonzeroBit v)
      fun u hu => by rw [← hu]; rfl
  | sswap v =>
    cases hp
    exact State.sets_field hok hb hi ⟨rfl, rfl, fun _ => rfl⟩ fieldAbSwap_isRun (nonzeroBit_lt v) (setWidth_nonzeroBit v)
      fun u hu => by rw [← hu]; rfl
  | szedge v =>
    cases hp
    have hv : v.toNat ≤ 1 := Nat.le_of_not_lt hgood
    exact State.sets_argByte hok hb hi ⟨rfl, rfl, fun _ => rfl⟩ fieldZEdge_isRun (Nat.lt_succ_of_le hv) rfl
      fun u hu => by rw [← hu, exec, execSzedge, bitOk, decide_eq_true hv]; rfl
  | szwid v =>
    cases hp
    have hv : v.toNat ≤ 7 := Nat.le_of_not_lt hgood
    exact State.sets_argByte hok hb hi ⟨rfl, rfl, fun _ => rfl⟩ fieldZWidth_isRun (Nat.lt_succ_of_le hv) rfl
      fun u hu => by rw [← hu, exec, execSzwid, widthOk, decide_eq_true hv]; rfl
  | szph v =>
    cases hp
    have hv : v.toNat ≤ 3 := Nat.le_of_not_lt hgood
    exact State.sets_argByte hok hb hi ⟨rfl, rfl, fun _ => rfl⟩ fieldZPhase_isRun (Nat.lt_succ_of_le hv) rfl
      fun u hu => by rw [← hu, exec, execSzph, phaseOk, decide_eq_true hv]; rfl
  | sdir v =>
    cases hp
    have hv : v.toNat ≤ 1 := Nat.le_of_not_lt hgood
    exact State.sets_argByte hok hb hi ⟨rfl, rfl, fun _ => rfl⟩ fieldAbLead_isRun (Nat.lt_succ_of_le hv) rfl
      fun u hu => by rw [← hu, exec, execSdir, bitOk, decide_eq_true hv]; rfl
  | _ => cases hp

/-- A setter, refused or not, keeps every bit that is not of its parameter (R127). -/
theorem serveIdeal_setter_keeps (hp : setterOf i = some p) : ∃ t, serveIdeal (requestWord i) s = .next t ∧
    t.busy = false ∧ t.build = s.build ∧ Memory.AgreeOn s.build (fun r => ~~~p.mask r) s.dev t.dev := by
  by_cases hbad : badArgument s.build i
  · obtain ⟨t, ht, hdone, -, hbuild, hdev⟩ :=
      serveIdeal_refused hb (decodeRequest_requestWord (setterOf_isWire hp)) hbad
    exact ⟨t, ht, State.busy_eq_false_iff.mpr (.inr hdone), hbuild, hdev ▸ Memory.AgreeOn.refl _ _ _⟩
  · obtain ⟨m, bytes, ⟨t, ht, hdone, -, hbuild, hdev⟩, hwritten, -⟩ := State.sets_of_setterOf hok hb hp hbad
    exact ⟨t, ht, State.busy_eq_false_iff.mpr (.inr hdone), hbuild, hdev ▸ hwritten.keeps⟩

end

/-- Settles O56: the setter sets its parameter, and the getter returns what is set. -/
theorem settersAndGettersRoundTrip : Obligations.SettersAndGettersRoundTrip := by
  intro s i g r hok hb h
  obtain ⟨p, hp, hq, hgood, rfl⟩ : ∃ p, setterOf i = some p ∧ getterOf g = some p ∧ ¬ badArgument s.build i ∧
      settingOf s.build i = r := by
    rcases h with ⟨v, rfl, rfl, rfl, hlo, hhi⟩ | ⟨d, rfl, rfl, hnonneg, hle, rfl⟩ | ⟨v, rfl, rfl, rfl, hv⟩ |
      ⟨v, rfl, rfl, rfl, hv⟩ | ⟨v, rfl, rfl, rfl, hv⟩ | ⟨v, rfl, rfl, rfl, hv⟩ | ⟨v, rfl, rfl, rfl, hv⟩ |
      ⟨v, rfl, rfl, rfl⟩ | ⟨v, rfl, rfl, rfl⟩
    · exact ⟨_, rfl, rfl, not_or.mpr ⟨Nat.ne_of_gt hlo, Nat.not_lt_of_le hhi⟩, rfl⟩
    · exact ⟨_, rfl, rfl, not_or.mpr ⟨not_lt_of_ge hnonneg, not_lt_of_ge hle⟩, rfl⟩
    · exact ⟨_, rfl, rfl, Nat.not_lt_of_le hv, rfl⟩
    · exact ⟨_, rfl, rfl, Nat.not_lt_of_le hv, rfl⟩
    · exact ⟨_, rfl, rfl, Nat.not_lt_of_le hv, rfl⟩
    · exact ⟨_, rfl, rfl, Nat.not_lt_of_le hv, rfl⟩
    · exact ⟨_, rfl, rfl, Nat.not_lt_of_le hv, rfl⟩
    · exact ⟨_, rfl, rfl, id, rfl⟩
    · exact ⟨_, rfl, rfl, id, rfl⟩
  obtain ⟨m, bytes, ⟨t, ht, hdone, hrsp, hbuild, hdev⟩, hwritten, hvalue⟩ := State.sets_of_setterOf hok hb hp hgood
  have hknown : ∀ r ∈ p.registers, t.dev.byteAt t.build r = some (bytes r) := by
    rw [hdev, hbuild]; exact hwritten.known
  obtain ⟨u, hu, -, hreturned, -⟩ :=
    serveIdeal_getter (hbuild ▸ hok) (State.busy_eq_false_iff.mpr (.inr hdone)) hq hknown
  exact ⟨t, u, ht, hrsp, hu, hvalue ▸ hreturned⟩

/-- Settles O57: the setter keeps the bits the getter's value is in. -/
theorem noSetterDisturbsAnotherField : Obligations.NoSetterDisturbsAnotherField := by
  intro s i g p q hok hb hp hq hne hknown
  obtain ⟨t, ht, hbusy, hbuild, hkeeps⟩ := serveIdeal_setter_keeps hok hb hp
  have hown : Memory.AgreeOn s.build q.mask s.dev t.dev := hkeeps.mono (Param.mask_and_not_mask hne)
  choose bytes hbytes using fun r : ParamReg => Option.isSome_iff_exists.mp (hknown _ (r.addr_mem_registers s.build))
  choose bytes' hbytes' hsame using fun r => hown r (bytes r) (hbytes r)
  obtain ⟨u, hu, -, hrsp, -⟩ := serveIdeal_getter hok hb hq fun r _ => hbytes r
  obtain ⟨u', hu', -, hrsp', -⟩ := serveIdeal_getter (s := t) (bytes := bytes') (hbuild ▸ hok) hbusy hq fun r _ => by
    rw [hbuild]; exact hbytes' r
  rw [q.value_congr fun r _ => hsame r] at hrsp'
  have hbits (r : ParamReg) {x y : Byte} (hx : s.dev.byteAt s.build r = some x) (hy : t.dev.byteAt s.build r = some y) :
      y &&& ~~~p.mask r = x &&& ~~~p.mask r := by
    obtain ⟨y', hy', hxy⟩ := hkeeps r x hx
    rw [hy] at hy'
    exact Option.some.inj hy' ▸ hxy
  refine ⟨t, u, u', _, ht, hu, hu', hrsp, hrsp', fun x y hphase hx hy => ?_, fun x y hlead hx hy => ?_⟩
  · subst hphase
    exact hbits .uvwCfg hx hy
  · subst hlead
    exact hbits .hyst hx hy

end Sys2Proof.Machine
end

section
/-! PROOF. O9, O14, O31, O32, O34: the command operations (R137 to R142, R144). A command's frame is an exchange whose answer
also moves the command's state; the move after it judges the answer, and of the two only PROG waits in Settle. -/

namespace Sys2Proof.Machine

section
variable {s : State}

/-- What a cycle of Settle does to the whole state (R141). -/
theorem step_settle_eq (hr : s.pins.reset = false) (hq : s.seq = .settle) : step s = .next { s with
    seq := if s.pins.settleElapsed then .run else .settle, pins := s.env.head?.getD {}, env := s.env.tail } := by
  rw [step_settle hr hq, State.settleMoves, State.advance_eq]
  split
  · rfl
  · rw [← hq]

-- The answer to a command's frame.

theorem State.answer_onWires (hd : s.pins.device ≠ .ideal) (cmd : Cmd) (addr : Addr) (tx : Byte) :
    s.answer cmd addr tx = s.onWires := by
  cases hm : s.pins.device with
  | ideal => exact absurd hm hd
  | acts | ignores => rw [State.answer, hm]; rfl

/-- After a frame that is neither a RD nor a WR, answered on the wires, no register is known if the device acted on it
(R145). -/
theorem State.exchange_onWires_of_no_register {cmd : Cmd} (hv : s.pins.xrspValid = true) (hd : s.pins.device ≠ .ideal)
    (hr : cmd ≠ s.build.opcRd) (hw : cmd ≠ s.build.opcWr) (addr : Addr) (tx : Byte) : s.exchange cmd addr tx =
      { s.answeredBy s.onWires with dev := if s.pins.device = .acts then [] else s.dev } := by
  rw [s.exchange_onWires hv hd, State.deviceActs_dev, if_neg hr, if_neg hw]

section
variable (hok : s.build.Ok) (hv : s.pins.xrspValid = true) (hd : s.pins.device ≠ .ideal) (addr : Addr) (tx : Byte)
include hok hv hd

theorem exec_wireZero_onWires : exec (.wireZero addr tx) s = .next { s.answeredBy s.onWires with
    zeroState := s.zeroState.after s.onWires, dev := if s.pins.device = .acts then [] else s.dev } := by
  obtain ⟨⟨-, hrz, -, -⟩, ⟨hwz, -, -⟩, -⟩ := Config.opcs_distinct hok.1
  refine congrArg Host.Outcome.next ?_
  rw [State.exchange_onWires_of_no_register hv hd hrz.symm hwz.symm, if_pos hv, State.answer_onWires hd,
    CmdState.answered_eq_after]

theorem exec_wireProg_onWires : exec (.wireProg addr tx) s = .next { s.answeredBy s.onWires with
    progState := s.progState.after s.onWires, dev := if s.pins.device = .acts then [] else s.dev } := by
  obtain ⟨⟨-, -, hrp, -⟩, ⟨-, hwp, -⟩, -⟩ := Config.opcs_distinct hok.1
  refine congrArg Host.Outcome.next ?_
  rw [State.exchange_onWires_of_no_register hv hd hrp.symm hwp.symm, if_pos hv, State.answer_onWires hd,
    CmdState.answered_eq_after]

end

theorem CmdState.after_sent {c : CmdState} (h : c = .sent) (r : Reply) :
    c.after r = if r = .ok 0x55 then .acknowledged else .failed := if_pos h

-- The moves of the two commands.

theorem execZero_start (hs : s.AtStart) : execZero s =
    .next ({ s with zeroState := .sent }.sent (packFrame s.build.opcZero s.build.cmdAddr s.build.cmdData)) :=
  State.sequence_atStart hs _ _ _

theorem execProg_start (hs : s.AtStart) : execProg s =
    .next ({ s with progState := .sent }.sent (packFrame s.build.opcProg s.build.cmdAddr s.build.cmdData)) :=
  State.sequence_atStart hs _ _ _

theorem execZero_acknowledged (h : s.Answered 1 0x55) : execZero s = .next (s.over (.ok 0) Work.cleared) :=
  (State.sequence_first h _ _ _ _).trans (if_pos rfl)

theorem execProg_acknowledged (h : s.Answered 1 0x55) : execProg s = .next { s with seq := .settle, reply := none } :=
  (State.sequence_first h _ _ _ _).trans (if_pos rfl)

/-- Any other byte ends either command at once (R142). -/
theorem exec_unacknowledged {i : Instr} {b : Byte} (hi : i = .zero ∨ i = .prog) (hb : b ≠ 0x55) (h : s.Answered 1 b) :
    exec i s = .next (s.over (.err .unexpectedAcknowledgement) Work.cleared) := by
  rcases hi with rfl | rfl <;> exact (State.sequence_first h _ _ _ _).trans (if_neg hb)

/-- The move after the wait in Settle (R139). -/
theorem execProg_settled (h1 : s.stepCount = 1) (hr : s.reply = none) :
    execProg s = .next (s.over (.ok 0) Work.cleared) :=
  (State.sequence_resumed hr (by simp [h1]) _ _ _).trans (if_pos h1)

-- Which instructions move a command state.

/-- Of the wire commands, too, only ZERO and PROG move their command states (R144). -/
theorem exec_wire_cmdStates {i : Instr} {t : State} (hi : i.isWire = true) (h : exec i s = .next t) :
    ((∀ a b, i ≠ .wireZero a b) → t.zeroState = s.zeroState) ∧
    ((∀ a b, i ≠ .wireProg a b) → t.progState = s.progState) := by
  cases i with
  | wireRd a b | wireWr a b | wireBurst a b =>
    obtain rfl := Host.Outcome.next.inj h
    obtain ⟨hz, hp⟩ := s.exchange_cmdStates _ a b
    exact ⟨fun _ => hz, fun _ => hp⟩
  | wireZero a b =>
    obtain rfl := Host.Outcome.next.inj h
    exact ⟨fun hne => absurd rfl (hne a b), fun _ => (s.exchange_cmdStates _ a b).2⟩
  | wireProg a b =>
    obtain rfl := Host.Outcome.next.inj h
    exact ⟨fun _ => (s.exchange_cmdStates _ a b).1, fun hne => absurd rfl (hne a b)⟩
  | _ => cases hi

end

/-- Settles O9: the cycle of Settle reads settle-elapsed only. -/
theorem settleEndsOnlyWithItsEvent : Obligations.SettleEndsOnlyWithItsEvent :=
  fun _ hr hq => step_settle_eq hr hq

/-- Settles O14: the frame of a command is an exchange with no register. -/
theorem commandAnswerMovesItsState : Obligations.CommandAnswerMovesItsState :=
  fun _ a b hok hv hd => ⟨exec_wireZero_onWires hok hv hd a b, exec_wireProg_onWires hok hv hd a b⟩

/-- Settles O31: the start, the judged answer, the answer's own step, and the end with TransportError. -/
theorem zeroSendsAndJudgesTheAcknowledgement : Obligations.ZeroSendsAndJudgesTheAcknowledgement :=
  ⟨fun _ => rfl, fun s => ⟨execZero_start,
    fun h => ⟨_, execZero_acknowledged h⟩,
    fun hok hv hd hsent => CmdState.after_sent hsent s.onWires ▸ exec_wireZero_onWires hok hv hd _ _,
    fun _ hb h => ⟨_, exec_unacknowledged (.inl rfl) hb h⟩,
    fun _ h => ⟨_, exec_failed rfl nofun h⟩⟩⟩

/-- Settles O32: as ZERO, with the cycles of Settle and the move after them. -/
theorem progSendsAndWaitsToSettle : Obligations.ProgSendsAndWaitsToSettle :=
  ⟨fun _ => rfl, fun s => ⟨execProg_start,
    fun hok hv hd hsent => CmdState.after_sent hsent s.onWires ▸ exec_wireProg_onWires hok hv hd _ _,
    execProg_acknowledged,
    step_settle_eq,
    fun _ hb h => ⟨_, exec_unacknowledged (.inr rfl) hb h⟩,
    fun h1 hr => ⟨_, execProg_settled h1 hr⟩,
    fun _ h => ⟨_, exec_failed rfl nofun h⟩⟩⟩

/-- Settles O34: a wire command moves its own state only, and so does an operation. -/
theorem commandStatesAreIndependent : Obligations.CommandStatesAreIndependent := by
  intro i s t ht
  cases hi : i.isWire with
  | true =>
    obtain ⟨hzero, hprog⟩ := exec_wire_cmdStates hi ht
    exact ⟨fun ⟨_, hne⟩ => hzero hne, fun ⟨_, hne⟩ => hprog hne⟩
  | false =>
    obtain ⟨hzero, hprog, -⟩ := exec_moves hi t ht
    exact ⟨fun ⟨hne, _⟩ => hzero hne, fun ⟨hne, _⟩ => hprog hne⟩

end Sys2Proof.Machine
end

section
/-! PROOF. O33: a whole ZERO or PROG answered on the wires (R142). After its one exchange the answer is in hand and decides
how it ends; an acknowledged PROG takes two steps more, for its wait. -/

namespace Sys2Proof.Machine

/-- The response of a command whose exchange is answered by `r` (R142). -/
def Reply.verdict : Reply → Rsp
  | .ok b => if b = 0x55 then .ok 0 else .err .unexpectedAcknowledgement
  | .fail n => .err (.transport n)

/-- A command is in hand and `r`, the answer to its one exchange, has come. -/
structure State.CommandAnswered (u : State) (i : Instr) (r : Reply) : Prop where
  seq    : u.seq = .run
  inHand : u.inHand = .ok i
  count  : u.stepCount = r.count 0
  reply  : u.reply = some r

/-- The operation has ended with `r`. -/
def State.Ended (r : Rsp) (t : State) : Prop := t.seq = .done ∧ t.rsp = r

section
variable {s u t : State} {i : Instr} {ps : List Pins} {q : Pins} {r : Reply}

/-- Once the operation has ended, a run without a request and without a reset leaves its response. -/
theorem runWith_done (hq : s.seq = .done) (hps : ∀ p ∈ ps, p.reset = false ∧ p.reqValid = false) :
    (runWith ps s).Reaches (State.Ended s.rsp) := by
  induction ps generalizing s with
  | nil => exact ⟨s, rfl, hq, rfl⟩
  | cons p ps ih =>
    obtain ⟨⟨hreset, hvalid⟩, hps⟩ := List.forall_mem_cons.mp hps
    have hstep := step_host (s := s.withPins p) hreset (State.busy_eq_false_iff.mpr (.inr hq))
    rw [State.hostMoves, if_neg (by simp [State.withPins, hvalid]), State.advance_eq] at hstep
    rw [runWith_cons hstep]
    exact ih hq hps

/-- A move that ends the operation, and quiet pins after it. -/
theorem runWith_over {p : Pins} {rsp : Rsp} {w : Work} (hp : p.reset = false) (hq : s.seq = .run) (hi : s.inHand = .ok i)
    (h : exec i (s.withPins p) = .next (u.over rsp w)) (hps : ∀ p ∈ ps, p.reset = false ∧ p.reqValid = false) :
    (runWith (p :: ps) s).Reaches (State.Ended rsp) := by
  rw [runWith_move hp hq hi h]
  exact runWith_done rfl hps

/-- An exchange: the move that sends the frame `f`, then the answer to it, `j` the wire command of the frame. -/
theorem runWith_sent {f : Frame} {j : Instr} (hq : s.seq = .run) (hi : s.inHand = .ok i)
    (h : exec i (s.withPins {}) = .next (u.sent f)) (hd : decodeFrame u.build f = .ok j) (hreset : q.reset = false)
    (ht : exec j ((u.sent f).nextPins.withPins q) = .next t) : runWith ({} :: q :: ps) s = runWith ps t.nextPins :=
  (runWith_move rfl hq hi h).trans (runWith_answer (s := (u.sent f).nextPins) hreset rfl rfl hd ht)

theorem State.answeredBy_stepCount (s : State) (r : Reply) : (s.answeredBy r).stepCount = r.count s.stepCount := by
  cases r <;> rfl

/-- The one exchange of a command, answered on the wires. -/
theorem runWith_command (hi : i = .zero ∨ i = .prog) (hok : s.build.Ok) (hq : s.seq = .run) (hhand : s.inHand = .ok i)
    (hs : s.AtStart) (hreset : q.reset = false) (hv : q.xrspValid = true) (hd : q.device ≠ .ideal) :
    ∃ u, u.CommandAnswered i (s.withPins q).onWires ∧ ∀ ps, runWith ({} :: q :: ps) s = runWith ps u := by
  obtain ⟨-, -, hzero, hprog, -⟩ := decodeFrame_packFrame s.build hok.1 s.build.cmdAddr s.build.cmdData
  have hcount : (s.answeredBy (s.withPins q).onWires).stepCount = (s.withPins q).onWires.count 0 := by
    rw [State.answeredBy_stepCount, hs.1]
  rcases hi with rfl | rfl
  · have hsend := execZero_start (s := s.withPins {}) hs
    refine ⟨_, ?_, fun ps => runWith_sent hq hhand hsend hzero hreset
      (exec_wireZero_onWires (by exact hok) (by exact hv) (by exact hd) _ _)⟩
    exact ⟨rfl, hhand, hcount, rfl⟩
  · have hsend := execProg_start (s := s.withPins {}) hs
    refine ⟨_, ?_, fun ps => runWith_sent hq hhand hsend hprog hreset
      (exec_wireProg_onWires (by exact hok) (by exact hv) (by exact hd) _ _)⟩
    exact ⟨rfl, hhand, hcount, rfl⟩

/-- An acknowledged PROG: the move to Settle, the cycle of settle-elapsed, and the move that ends it (R139). -/
theorem State.CommandAnswered.prog_settles (h : u.CommandAnswered .prog (.ok 0x55)) :
    (runWith [{}, { settleElapsed := true }, {}] u).Reaches (State.Ended (.ok 0)) := by
  rw [runWith_move rfl h.seq h.inHand (execProg_acknowledged (s := u.withPins {}) ⟨h.count, h.reply⟩),
    runWith_cons (step_settle_eq rfl rfl)]
  exact runWith_over rfl rfl h.inHand (execProg_settled h.count rfl) nofun

/-- The answer in hand decides how the command ends. -/
theorem State.CommandAnswered.ends (hi : i = .zero ∨ i = .prog) (h : u.CommandAnswered i r) :
    (runWith [{}, { settleElapsed := true }, {}] u).Reaches (State.Ended r.verdict) := by
  have hquiet : ∀ p ∈ [({ settleElapsed := true } : Pins), {}], p.reset = false ∧ p.reqValid = false := by decide
  have hends {rsp : Rsp} (hover : exec i (u.withPins {}) = .next ((u.withPins {}).over rsp Work.cleared)) :
      (runWith [{}, { settleElapsed := true }, {}] u).Reaches (State.Ended rsp) :=
    runWith_over rfl h.seq h.inHand hover hquiet
  cases r with
  | fail n =>
    obtain ⟨hwire, hburst⟩ : i.isWire = false ∧ i ≠ .burst := by rcases hi with rfl | rfl <;> decide
    exact hends (exec_failed hwire hburst h.reply)
  | ok b =>
    by_cases hb : b = 0x55
    · subst hb
      rcases hi with rfl | rfl
      · exact hends (execZero_acknowledged ⟨h.count, h.reply⟩)
      · exact h.prog_settles
    · rw [Reply.verdict, if_neg hb]
      exact hends (exec_unacknowledged hi hb ⟨h.count, h.reply⟩)

end

/-- Settles O33: the one exchange, and the verdict on its answer. -/
theorem commandSucceedsIffAcknowledged : Obligations.CommandSucceedsIffAcknowledged := by
  intro s i b fail n m hok hb hi hm
  have hhand : (s.accept (requestWord i)).nextPins.inHand = .ok i :=
    decodeRequest_requestWord (by rcases hi with rfl | rfl <;> rfl)
  obtain ⟨u, hu, hrun⟩ := runWith_command (s := (s.accept (requestWord i)).nextPins)
    (q := { xrspValid := true, xrspData := b, xrspFail := fail, xrspInfo := n, device := m })
    hi hok rfl hhand ⟨rfl, rfl⟩ rfl rfl hm
  obtain ⟨t, ht, hq, hrsp⟩ := hu.ends hi
  refine ⟨t, (serve_eq_runWith hb _).trans ((hrun _).trans ht), hq, ?_⟩
  rw [hrsp]
  cases fail with
  | true => exact ⟨by simp [State.withPins, State.onWires, Reply.verdict], fun _ => rfl, nofun⟩
  | false => exact ⟨by simp [State.withPins, State.onWires, Reply.verdict], nofun, fun _ hne => if_neg hne⟩

end Sys2Proof.Machine
end

section
/-! PROOF. O8, O37, O38: the error table (R148, R151, R157). A move past an operation's start ends in the errors of the checks
its own line makes, and with a failed answer in hand in TransportError; at the start the operation is refused or goes on.
That each cell with an X can happen is shown by one state for each column, at the point of the line where the error arises. -/

namespace Sys2Proof

-- The op codes outside the table.

/-- The op codes of the table of R58. -/
def opCodes : List Byte :=
  [0x01, 0x02, 0x03, 0x08, 0x10, 0x11, 0x12, 0x13, 0x14, 0x15, 0x16, 0x17, 0x18, 0x19, 0x1A, 0x1B, 0x1C, 0x1D,
    0x1E, 0x1F, 0x20, 0x21, 0x30, 0x31, 0x32]

section
variable {op : Byte} {arg : Word}

theorem exists_decodeOp_of_mem_opCodes (h : op ∈ opCodes) (arg : Word) : ∃ i, decodeOp op arg = .ok i := by
  revert op
  simp [opCodes, decodeOp]

theorem mem_opCodes_of_decodeOp {i : Instr} (h : decodeOp op arg = .ok i) : op ∈ opCodes := by
  unfold decodeOp at h
  split at h
  case h_26 => cases h
  all_goals decide

/-- `decodeOp` fails exactly on the op codes outside the table. -/
theorem decodeOp_fails_iff : (∃ e, decodeOp op arg = .error e) ↔ op ∉ opCodes := by
  constructor
  · rintro ⟨e, he⟩ hop
    obtain ⟨i, hi⟩ := exists_decodeOp_of_mem_opCodes hop arg
    cases he.symm.trans hi
  · intro hop
    cases hd : decodeOp op arg with
    | ok i => exact absurd (mem_opCodes_of_decodeOp hd) hop
    | error e => exact ⟨e, rfl⟩

end

namespace Machine

-- The errors an operation can end in.

/-- An error in RSP of `t` is of a kind in `P`. -/
def State.ErrorsIn (P : ErrKind → Prop) (t : State) : Prop := ∀ e, t.rsp = .err e → P e.kind

/-- If a move from `s` leads to `t`, an error there is of a kind in `P`, unless `s` is the operation's start or the answer
in hand has failed. -/
def State.LateErrorsIn (P : ErrKind → Prop) (s t : State) : Prop :=
  ∀ e, t.rsp = .err e → s.AtStart ∨ (∃ n, s.reply = some (.fail n) ∧ e = .transport n) ∨ P e.kind

section
variable {s : State} {P : ErrKind → Prop}

/-- The continuations and the move after the last exchange decide which errors a line past its start ends in. -/
theorem State.sequence_lateErrorsIn (start : Result) {rest : List (Byte → Result)} {resume : Result}
    (hrest : ∀ cont ∈ rest, ∀ b, (cont b).Ensures (State.ErrorsIn P)) (hresume : resume.Ensures (State.ErrorsIn P)) :
    (s.sequence start rest resume).Ensures (s.LateErrorsIn P) := by
  intro t h e he
  rcases State.sequence_next h with ⟨n, hn, rfl⟩ | ⟨n, b, cont, -, -, hc, ht⟩ | ⟨hs, -⟩ | ⟨-, -, ht⟩
  · cases he
    exact .inr (.inl ⟨n, hn, rfl⟩)
  · exact .inr (.inr (hrest cont (List.mem_of_getElem? hc) b t ht e he))
  · exact .inl hs
  · exact .inr (.inr (hresume t ht e he))

theorem State.raise_errorsIn {e : OpError} (h : P e.kind) : Result.Ensures (.next (s.raise e)) (State.ErrorsIn P) :=
  Result.ensures_next.mpr fun _ he => Rsp.err.inj he ▸ h

theorem State.returnOk_errorsIn (v : Word) : Result.Ensures (.next (s.returnOk v)) (State.ErrorsIn P) :=
  Result.ensures_next.mpr nofun

theorem execZero_lateErrorsIn (h : P .unexpectedAck) : (execZero s).Ensures (s.LateErrorsIn P) := by
  refine State.sequence_lateErrorsIn _ ?_ Result.ensures_fault
  simp only [List.forall_mem_singleton]
  exact fun rx => Result.ensures_ite (State.returnOk_errorsIn 0) (State.raise_errorsIn h)

section
variable (hr : s.rsp = .absent)
include hr

theorem State.writePair_lateErrorsIn (ok : Bool) (addrH addrL : Addr) (high : Byte) (low : Byte → Byte) :
    (s.writePair ok addrH addrL high low).Ensures (s.LateErrorsIn P) := by
  unfold State.writePair
  split <;> exact State.sequence_lateErrorsIn _ (by simp [State.ErrorsIn, hr]) Result.ensures_fault

theorem execRdangle_lateErrorsIn (h : P .checksum) : (execRdangle s).Ensures (s.LateErrorsIn P) := by
  refine State.sequence_lateErrorsIn _ ?_ (Result.ensures_ite ?_ Result.ensures_fault)
  · simp [State.angleByte, State.angleCrc, State.ErrorsIn, hr]
  · exact Result.ensures_ite (State.returnOk_errorsIn _) (State.raise_errorsIn h)

theorem execProg_lateErrorsIn (h : P .unexpectedAck) : (execProg s).Ensures (s.LateErrorsIn P) := by
  refine State.sequence_lateErrorsIn _ ?_ (Result.ensures_ite (State.returnOk_errorsIn 0) Result.ensures_fault)
  simp only [List.forall_mem_singleton]
  exact fun rx => Result.ensures_ite (by simp [State.ErrorsIn, hr]) (State.raise_errorsIn h)

/-- Past its start an operation ends in the errors the table lists for it, the failed answer apart. -/
theorem exec_lateErrorsIn {i : Instr} (hi : i.isWire = false) (c : Config) :
    Result.Ensures (exec i s) (s.LateErrorsIn (mayEndIn c i)) := by
  cases i with
  | wireRd | wireWr | wireZero | wireProg | wireBurst => cases hi
  | rdangle => exact execRdangle_lateErrorsIn hr rfl
  | gdir =>
    rw [exec, execGdir_eq_readOne]
    exact State.sequence_lateErrorsIn _ (by simp [State.ErrorsIn]) Result.ensures_fault
  | zero => exact execZero_lateErrorsIn (.inl rfl)
  | prog => exact execProg_lateErrorsIn hr (.inr rfl)
  | burst => exact Result.ensures_next.mpr fun e he => .inr (.inr (Rsp.err.inj he ▸ rfl))
  | rdreg | guid | gabz | gswap | gzedge | gzwid | gzph | gres | gzpos | wrreg | suid
  | rmw | sabz | sswap | szedge | szwid | szph | sdir =>
    exact State.sequence_lateErrorsIn _ (by simp [State.ErrorsIn, hr]) Result.ensures_fault
  | sres | szpos => exact State.writePair_lateErrorsIn hr _ _ _ _ _

/-- At its start an operation ends in the errors of the table: in InvalidArgument, or BURST in IllegalOperation. -/
theorem exec_atStart_errorsIn {i : Instr} (hi : i.isWire = false) (hs : s.AtStart) :
    Result.Ensures (exec i s) (State.ErrorsIn (mayEndIn s.build i)) := by
  by_cases hb : i = .burst
  · subst hb
    exact State.raise_errorsIn rfl
  obtain ⟨u, hu, hstart⟩ := exec_startsIf hs hi hb
  intro t h e he
  rcases State.guardArg_next (hu.symm.trans h) with ⟨hw, hut⟩ | ⟨hw, rfl⟩
  · obtain ⟨-, -, -, -, hq, -⟩ := hstart hw
    obtain rfl : u = t := Host.Outcome.next.inj hut
    obtain ⟨-, -, ⟨hdone, -⟩ | ⟨hrsp, -⟩⟩ := exec_moves hi u h
    · cases hq.symm.trans hdone
    · cases he.symm.trans (hrsp.trans hr)
  · cases he
    exact ((Instr.wellFormed_eq_false_iff hi).mp hw).resolve_right hb

/-- An error is one of the table, or the TransportError of the failed answer in hand. -/
theorem exec_errors {t : State} {i : Instr} {e : OpError} (hi : i.isWire = false) (h : exec i s = .next t)
    (he : t.rsp = .err e) : mayEndIn s.build i e.kind ∨ ∃ n, s.reply = some (.fail n) ∧ e = .transport n := by
  rcases exec_lateErrorsIn hr hi s.build t h e he with hs | hfail | htable
  · exact .inl (exec_atStart_errorsIn hr hi hs t h e he)
  · exact .inr hfail
  · exact .inl htable

end

end

-- The cells with an X.

section
variable {c : Config} {i : Instr}

/-- Some state of the build `c` that meets the invariant, with SEQ = Run and operation `i` in hand, leads to the end of `i` in
an error of kind `k`. -/
def CanEndIn (c : Config) (i : Instr) (k : ErrKind) : Prop :=
  ∃ s t e, s.build = c ∧ s.Inv ∧ s.seq = .run ∧ s.inHand = .ok i ∧ exec i s = .next t ∧ t.rsp = .err e ∧ e.kind = k

/-- In the build `c`, operation `i` is in hand at STEP = `k` with the answer `r`, SEQ = Run and the working registers are `w`.
Both command states are Failed, as every answer but the acknowledgement leaves them (R138, R140). -/
def State.atPoint (c : Config) (i : Instr) (k : BitVec 3) (r : Option Reply) (w : Work) : State :=
  { (State.reset.withRequest (requestOp (requestWord i)) (requestArg (requestWord i))).withWork w with
    build := c, seq := .run, stepCount := k, reply := r, zeroState := .failed, progState := .failed }

/-- The operations that make exchanges: all but BURST and the refused ones (R43). -/
theorem exchanges_length_pos_iff (hi : i.isWire = false) :
    0 < (i.exchanges c).length ↔ i ≠ .burst ∧ ¬ badArgument c i := by
  have hwell : i.wellFormed c = true ↔ i ≠ .burst ∧ ¬ badArgument c i := by
    rw [← Bool.not_eq_false, Instr.wellFormed_eq_false_iff hi, not_or, and_comm]
  rw [← hwell]
  constructor
  · intro hpos
    by_contra hw
    rw [Instr.exchanges_of_not_wellFormed hi (Bool.eq_false_iff.mpr hw)] at hpos
    cases hpos
  · intro hw
    have hs : (State.atPoint c i 0 none Work.cleared).AtStart := ⟨rfl, rfl⟩
    obtain ⟨_, -, hstart⟩ := exec_startsIf hs hi (hwell.mp hw).1
    obtain ⟨x, -, hx, -⟩ := hstart hw
    exact List.length_pos_of_mem (List.mem_of_head? hx)

/-- At a point of its line that holds a failed answer, the table lets the operation end in TransportError. -/
theorem State.RunPoint.mayEndIn_transport {s : State} {n : Nat} (hi : i.isWire = false) (hp : s.RunPoint i)
    (hr : s.reply = some (.fail n)) : mayEndIn s.build i .transport := by
  obtain ⟨hlt, -⟩ := (State.runPoint_fail hr).mp hp
  exact ⟨hi, (exchanges_length_pos_iff hi).mp (Nat.zero_lt_of_lt hlt)⟩

section
variable (hok : c.Ok) (hi : i.isWire = false)
include hok hi

/-- A point of the operation's line meets the invariant. -/
theorem State.atPoint_inv {k : BitVec 3} {r : Option Reply} {w : Work} (hfit : ∀ n, r = some (.fail n) → n < 2 ^ c.terrW)
    (hp : (State.atPoint c i k r w).RunPoint i) : (State.atPoint c i k r w).Inv :=
  have hhand : (State.atPoint c i k r w).inHand = .ok i := decodeRequest_requestWord hi
  ⟨hok, Memory.wf_nil, State.Between.run_safe ⟨rfl, rfl, nofun, nofun, hhand⟩ rfl hp hfit⟩

/-- Operation `i` can end in an error if `exec` ends it so from a point of its line. -/
theorem canEndIn_of_point {k : BitVec 3} {r : Option Reply} {w : Work} {t : State} {e : OpError} {kind : ErrKind}
    (hfit : ∀ n, r = some (.fail n) → n < 2 ^ c.terrW) (hp : (State.atPoint c i k r w).RunPoint i)
    (h : exec i (State.atPoint c i k r w) = .next t) (he : t.rsp = .err e) (hkind : e.kind = kind) : CanEndIn c i kind :=
  ⟨_, t, e, rfl, State.atPoint_inv hok hi hfit hp, rfl, decodeRequest_requestWord hi, h, he, hkind⟩

theorem canEndIn_transport (hb : i ≠ .burst) (hbad : ¬ badArgument c i) : CanEndIn c i .transport :=
  canEndIn_of_point (k := 0) (r := some (.fail 0)) (w := Work.cleared) hok hi
    (fun n hn => by cases hn; exact Nat.two_pow_pos _)
    ⟨(exchanges_length_pos_iff hi).mpr ⟨hb, hbad⟩, fun _ => rfl, fun _ => rfl⟩ (exec_failed hi hb rfl)
    rfl rfl

end

variable (hok : c.Ok)
include hok

theorem canEndIn_invalidArgument (hbad : badArgument c i) : CanEndIn c i .invalidArgument :=
  canEndIn_of_point (k := 0) (r := none) (w := Work.cleared) hok (badArgument_isWire hbad) nofun (.inl rfl)
    (exec_of_badArgument ⟨rfl, rfl⟩ hbad) rfl rfl

theorem canEndIn_illegal : CanEndIn c .burst .illegal :=
  canEndIn_of_point (k := 0) (r := none) (w := Work.cleared) hok rfl nofun (.inl rfl) rfl rfl rfl

/-- The byte 0x00 is no acknowledgement (R142, R155). -/
theorem canEndIn_unexpectedAck (hi : i = .zero ∨ i = .prog) : CanEndIn c i .unexpectedAck := by
  have hbyte : (0x00 : Byte) ≠ 0x55 := by decide
  refine canEndIn_of_point (k := 1) (r := some (.ok 0x00)) (w := Work.cleared) hok ?_ nofun ?_
    (exec_unacknowledged hi hbyte ⟨rfl, rfl⟩)
    rfl rfl
  · rcases hi with rfl | rfl <;> rfl
  · rcases hi with rfl | rfl <;> exact ⟨le_rfl, le_rfl, trivial, fun _ => rfl, fun _ => rfl⟩

/-- The working registers of an RDANGLE before its verdict, the received CRC one more than the computed one. -/
def Work.mismatch (c : Config) : Work :=
  { Work.cleared with crc := crc8Angle c.crcSliceSource 0, crcRx := crc8Angle c.crcSliceSource 0 + 1 }

theorem canEndIn_checksum : CanEndIn c .rdangle .checksum := by
  have hne : crc8Angle c.crcSliceSource 0 ≠ crc8Angle c.crcSliceSource 0 + 1 := by simp
  exact canEndIn_of_point (k := 4) (r := none) (w := Work.mismatch c) hok rfl nofun (.inr (.inl ⟨rfl, rfl, rfl⟩))
    ((execRdangle_verdict rfl rfl).trans (if_neg hne)) rfl rfl

/-- Every cell with an X can happen. -/
theorem canEndIn_of_mayEndIn {k : ErrKind} (h : mayEndIn c i k) : CanEndIn c i k := by
  cases k with
  | transport =>
    obtain ⟨hi, hb, hbad⟩ := h
    exact canEndIn_transport hok hi hb hbad
  | invalidArgument => exact canEndIn_invalidArgument hok h
  | checksum =>
    obtain rfl : i = .rdangle := h
    exact canEndIn_checksum hok
  | unexpectedAck => exact canEndIn_unexpectedAck hok h
  | decode => exact h.elim
  | illegal =>
    obtain rfl : i = .burst := h
    exact canEndIn_illegal hok

end

/-- No cell without an X can happen. -/
theorem mayEndIn_of_canEndIn {c : Config} {i : Instr} {k : ErrKind} (h : CanEndIn c i k) : mayEndIn c i k := by
  obtain ⟨s, t, e, rfl, hinv, hq, hi, ht, he, rfl⟩ := h
  obtain ⟨-, -, -, hseq⟩ := hinv
  rw [State.SeqInv, hq] at hseq
  obtain ⟨hb, hp⟩ := (State.runInv_iff hi).mp hseq
  have hwire := decodeOp_isWire hi
  rcases exec_errors hb.rsp_absent hwire ht he with htable | ⟨n, hn, rfl⟩
  · exact htable
  · exact hp.mayEndIn_transport hwire hn

/-- Settles O37: the cells with an X by their states, the blank ones by the errors each line can end in. -/
theorem errorTable : Obligations.ErrorTable := by
  refine ⟨fun c i k hok _ => ⟨mayEndIn_of_canEndIn, canEndIn_of_mayEndIn hok⟩,
    fun i s t e hi hr h he => exec_errors hr hi h he, fun s t d hreset hq hd h => ?_⟩
  rw [step_run_illegal hreset hq hd, State.advance_eq] at h
  cases h
  rfl

/-- Settles O38: every line of exchanges looks at a failed answer first. -/
theorem transportErrorEndsEveryOperation : Obligations.TransportErrorEndsEveryOperation :=
  fun _ _ _ hi hb h => ⟨Work.cleared, exec_failed hi hb h⟩

/-- Settles O8: decoding fails outside the table, the step on such a code ends the operation, and so does BURST. -/
theorem illegalOperationIsRaisedAtDecode : Obligations.IllegalOperationIsRaisedAtDecode :=
  ⟨fun _ _ => decodeOp_fails_iff,
    fun _ _ hreset hq hd => ⟨Work.cleared, (step_run_illegal hreset hq hd).trans (Result.advanced_next_eq _)⟩,
    fun _ => ⟨Work.cleared, rfl⟩⟩

end Machine

end Sys2Proof
end

section
/-! PROOF. O1, O2, O12: reset, and the exchange that gets no answer (R168, R169, R171, R183). A reset writes RPC's own registers;
the device changes only by what it did with the frame in flight. -/

namespace Sys2Proof.Machine

section
variable {s : State}

/-- Reset gives every register of RPC its value, and the pins of the next step are no register (R168). -/
theorem State.resetRpc_holds (s : State) :
    s.resetRpc.advance.HoldsResetValues ∧ s.resetRpc.advance.LatchAndWorkCleared := by
  rw [State.advance_eq]
  exact ⟨⟨rfl, rfl, rfl, rfl, rfl, rfl, rfl, rfl, rfl, rfl, rfl⟩, rfl, rfl, rfl, rfl, rfl, rfl, rfl, rfl⟩

/-- A device register after the ideal device has met a frame: it holds the byte of a WR to it, or it reads as before. -/
theorem State.deviceStores_read_dev (s : State) (cmd : Cmd) (addr : Addr) (tx : Byte) (a : Nat) :
    Memory.read (s.deviceStores cmd addr tx).dev a = Memory.read s.dev a ∨
    (cmd = s.build.opcWr ∧ a = addr.toNat ∧ Memory.read (s.deviceStores cmd addr tx).dev a = some tx) := by
  rw [State.deviceStores_dev]
  split
  · next hstore =>
    by_cases ha : a = addr.toNat
    · exact .inr ⟨hstore.1, ha, by rw [ha, Memory.read_write_same]⟩
    · exact .inl (Memory.read_write_other _ _ ha)
  · exact .inl rfl

/-- A device register after a device that need not be ideal has acted on a frame: it holds the byte of a WR to it, it is not
known after a frame other than RD and WR, or it reads as before (R145). -/
theorem State.deviceActs_read_dev (s : State) (cmd : Cmd) (addr : Addr) (tx : Byte) (a : Nat) :
    Memory.read (s.deviceActs cmd addr tx).dev a = Memory.read s.dev a ∨
    (cmd = s.build.opcWr ∧ a = addr.toNat ∧ Memory.read (s.deviceActs cmd addr tx).dev a = some tx) ∨
    (cmd ≠ s.build.opcRd ∧ cmd ≠ s.build.opcWr ∧ Memory.read (s.deviceActs cmd addr tx).dev a = none) := by
  unfold State.deviceActs
  split
  · exact .inl rfl
  · next hr =>
    split
    · exact (s.deviceStores_read_dev cmd addr tx a).imp_right .inl
    · next hw => exact .inr (.inr ⟨hr, hw, rfl⟩)

/-- What a reset leaves of the device: every register as before, but for what the device did with the frame in flight (R169). -/
theorem State.abandonFrame_read_dev (s : State) (a : Nat) :
    Memory.read s.abandonFrame.dev a = Memory.read s.dev a ∨
    (s.seq = .waitX ∧ ∃ f, s.xout = some f ∧
      ((s.pins.device ≠ .ignores ∧ frameCmd f = s.build.opcWr ∧ a = (frameAddr f).toNat ∧
          Memory.read s.abandonFrame.dev a = some (frameTx f)) ∨
        (s.pins.device = .acts ∧ frameCmd f ≠ s.build.opcRd ∧ frameCmd f ≠ s.build.opcWr ∧
          Memory.read s.abandonFrame.dev a = none))) := by
  unfold State.abandonFrame
  split
  · next f hq hx =>
    split
    · next hd =>
      exact (s.deviceStores_read_dev _ _ _ a).imp_right fun h => ⟨hq, f, hx, .inl ⟨by simp [hd], h⟩⟩
    · next hd =>
      exact (s.deviceActs_read_dev _ _ _ a).imp_right fun h =>
        ⟨hq, f, hx, h.imp (fun h => ⟨by simp [hd], h⟩) fun h => ⟨hd, h⟩⟩
    · exact .inl rfl
  · exact .inl rfl

end

/-- Settles O1: reset writes each register of RPC, whatever the device did with the frame in flight. -/
theorem resetLeavesTheTabledValues : Obligations.ResetLeavesTheTabledValues :=
  ⟨⟨rfl, rfl, rfl, rfl, rfl, rfl, rfl, rfl, rfl, rfl, rfl⟩, ⟨rfl, rfl, rfl, rfl, rfl, rfl, rfl, rfl⟩,
    fun s hr => ⟨_, step_reset hr, s.abandonFrame.resetRpc_holds⟩⟩

/-- Settles O2: the step of a reset reaches the device through the frame in flight only. -/
theorem resetLeavesTheDeviceAlone : Obligations.ResetLeavesTheDeviceAlone := by
  intro s hr
  refine ⟨_, step_reset hr, by simp, by simp, ?_, fun a => ?_⟩
  · rw [State.advance_build, State.resetRpc_build, State.abandonFrame_eq]
  · rw [State.advance_dev, State.resetRpc_dev]
    exact s.abandonFrame_read_dev a

/-- Settles O12: each wire command is an exchange, which waits, and a command state moves with an answer only. -/
theorem exchangeWithoutAnswerWaits : Obligations.ExchangeWithoutAnswerWaits := by
  intro s a b hv i hi
  have hwait := s.exchange_waits hv
  rcases hi with rfl | rfl | rfl | rfl | rfl
  · exact congrArg Host.Outcome.next (hwait s.build.opcRd a b)
  · exact congrArg Host.Outcome.next (hwait s.build.opcWr a b)
  · simp [exec, execWireZero, hwait, hv]
  · simp [exec, execWireProg, hwait, hv]
  · exact congrArg Host.Outcome.next (hwait s.build.opcBurst a b)

end Sys2Proof.Machine
end

section
/-! PROOF. O54: an operation whose every wait is answered is over within ten steps (R173, R183). A bound on the steps left falls
with every step of a busy state: an operation moves on only by using up the answer in hand, and each of its at most four
exchanges takes one answer. -/

namespace Sys2Proof.Machine

/-- A bound on the steps to the end of the operation in hand if the environment answers: two for each of the four exchanges a
line can have, its move and its answer, and two moves more, the first and RDANGLE's verdict. -/
def State.stepsLeft (s : State) : Nat :=
  match s.seq with
  | .idle | .done => 0
  | .settle => 2
  | .waitX => 1 + 2 * (4 - s.stepCount.toNat)
  | .run =>
    match s.reply with
    | none => if s.stepCount = 0 then 10 else 1
    | some (.fail _) => 1
    | some (.ok _) => 2 + 2 * (4 - s.stepCount.toNat)

/-- The pins of a step in which the environment answers whatever RPC waits for, without a reset or a request. -/
def Pins.Answers (p : Pins) : Prop :=
  p.reset = false ∧ p.reqValid = false ∧ p.xrspValid = true ∧ p.settleElapsed = true

/-- A move from `s` to `t` is the operation's start, ends it, or uses up the byte in hand. -/
def State.StartsEndsOrUses (s t : State) : Prop :=
  s.AtStart ∨ t.seq = .done ∨ ((∃ b, s.reply = some (.ok b)) ∧ t.reply = none)

section
variable {s t : State} {i : Instr}

-- The bound.

@[simp] theorem State.stepsLeft_advance : s.advance.stepsLeft = s.stepsLeft := by simp [State.stepsLeft]

@[simp] theorem State.stepsLeft_withPins (s : State) (p : Pins) : (s.withPins p).stepsLeft = s.stepsLeft := rfl

theorem State.stepsLeft_done (hq : s.seq = .done) : s.stepsLeft = 0 := by simp [State.stepsLeft, hq]

theorem State.stepsLeft_settle (hq : s.seq = .settle) : s.stepsLeft = 2 := by simp [State.stepsLeft, hq]

theorem State.stepsLeft_waitX (hq : s.seq = .waitX) : s.stepsLeft = 1 + 2 * (4 - s.stepCount.toNat) := by
  simp [State.stepsLeft, hq]

theorem State.stepsLeft_atStart (hq : s.seq = .run) (hs : s.AtStart) : s.stepsLeft = 10 := by
  obtain ⟨h0, hr⟩ := hs
  simp [State.stepsLeft, hq, h0, hr]

theorem State.stepsLeft_resumed (hq : s.seq = .run) (hr : s.reply = none) (h0 : s.stepCount ≠ 0) : s.stepsLeft = 1 := by
  simpa [State.stepsLeft, hq, hr] using h0

theorem State.stepsLeft_ok {b : Byte} (hq : s.seq = .run) (hr : s.reply = some (.ok b)) :
    s.stepsLeft = 2 + 2 * (4 - s.stepCount.toNat) := by
  simp [State.stepsLeft, hq, hr]

theorem State.stepsLeft_fail {n : Nat} (hq : s.seq = .run) (hr : s.reply = some (.fail n)) : s.stepsLeft = 1 := by
  simp [State.stepsLeft, hq, hr]

theorem State.stepsLeft_le_ten (s : State) : s.stepsLeft ≤ 10 := by
  unfold State.stepsLeft
  repeat' split
  all_goals omega

theorem State.stepsLeft_pos (hb : s.busy = true) : 0 < s.stepsLeft := by
  rcases State.busy_iff.mp hb with hq | hq | hq <;> simp only [State.stepsLeft, hq]
  · repeat' split
    all_goals omega
  · omega
  · omega

-- The moves of an operation.

/-- The continuations and the move after the last exchange decide where a line past its start leads. -/
theorem State.sequence_startsEndsOrUses (start : Result) {rest : List (Byte → Result)} {resume : Result}
    (hrest : ∀ cont ∈ rest, ∀ b, (cont b).Ensures (·.reply = none)) (hresume : resume.Ensures (·.seq = .done)) :
    (s.sequence start rest resume).Ensures s.StartsEndsOrUses := by
  intro t h
  rcases State.sequence_next h with ⟨n, -, rfl⟩ | ⟨n, b, cont, hr, -, hc, ht⟩ | ⟨hs, -⟩ | ⟨-, -, ht⟩
  · exact .inr (.inl rfl)
  · exact .inr (.inr ⟨⟨b, hr⟩, hrest cont (List.mem_of_getElem? hc) b t ht⟩)
  · exact .inl hs
  · exact .inr (.inl (hresume t ht))

theorem State.writePair_startsEndsOrUses (ok : Bool) (addrH addrL : Addr) (high : Byte) (low : Byte → Byte) :
    (s.writePair ok addrH addrL high low).Ensures s.StartsEndsOrUses := by
  unfold State.writePair
  split <;> exact State.sequence_startsEndsOrUses _ (by simp) Result.ensures_fault

theorem execRdangle_startsEndsOrUses : (execRdangle s).Ensures s.StartsEndsOrUses := by
  refine State.sequence_startsEndsOrUses _ ?_ (Result.ensures_ite (by simp [State.angleVerdict_eq]) Result.ensures_fault)
  simp [State.angleByte, State.angleCrc]

theorem execZero_startsEndsOrUses : (execZero s).Ensures s.StartsEndsOrUses := by
  refine State.sequence_startsEndsOrUses _ ?_ Result.ensures_fault
  simp only [List.forall_mem_singleton]
  exact fun rx => Result.ensures_ite (by simp) (by simp)

theorem execProg_startsEndsOrUses : (execProg s).Ensures s.StartsEndsOrUses := by
  refine State.sequence_startsEndsOrUses _ ?_ (Result.ensures_ite (by simp) Result.ensures_fault)
  simp only [List.forall_mem_singleton]
  exact fun rx => Result.ensures_ite (by simp) (by simp)

/-- Past its start a move ends the operation or uses up the byte in hand. -/
theorem exec_startsEndsOrUses (hi : i.isWire = false) : Result.Ensures (exec i s) s.StartsEndsOrUses := by
  cases i with
  | wireRd | wireWr | wireZero | wireProg | wireBurst => cases hi
  | rdangle => exact execRdangle_startsEndsOrUses
  | gdir =>
    rw [exec, execGdir_eq_readOne]
    exact State.sequence_startsEndsOrUses _ (by simp) Result.ensures_fault
  | zero => exact execZero_startsEndsOrUses
  | prog => exact execProg_startsEndsOrUses
  | burst => exact Result.ensures_next.mpr (.inr (.inl rfl))
  | rdreg | guid | gabz | gswap | gzedge | gzwid | gzph | gres | gzpos | wrreg | suid
  | rmw | sabz | sswap | szedge | szwid | szph | sdir =>
    exact State.sequence_startsEndsOrUses _ (by simp) Result.ensures_fault
  | sres | szpos => exact State.writePair_startsEndsOrUses _ _ _ _ _

/-- The start of an operation sends its first frame or refuses it. -/
theorem exec_atStart_seq (hi : i.isWire = false) (hs : s.AtStart) :
    Result.Ensures (exec i s) fun t => t.seq = .waitX ∨ t.seq = .done := by
  by_cases hb : i = .burst
  · subst hb
    exact Result.ensures_next.mpr (.inr rfl)
  obtain ⟨u, hu, hstart⟩ := exec_startsIf hs hi hb
  intro t h
  rcases State.guardArg_next (hu.symm.trans h) with ⟨hw, hut⟩ | ⟨-, rfl⟩
  · obtain ⟨-, -, -, -, hq, -⟩ := hstart hw
    exact .inl (Host.Outcome.next.inj hut ▸ hq)
  · exact .inr rfl

-- Every step of a busy state takes the bound down.

/-- `t` is nearer to the end of the operation in hand than `s`. -/
def State.Nearer (s t : State) : Prop := t.seq ≠ .idle ∧ t.stepsLeft < s.stepsLeft

theorem State.nearer_advance : s.Nearer t.advance ↔ s.Nearer t := by simp [State.Nearer]

theorem State.nearer_of_done (hb : s.busy = true) (hq : t.seq = .done) : s.Nearer t :=
  ⟨by simp [hq], State.stepsLeft_done hq ▸ State.stepsLeft_pos hb⟩

/-- The first move of an operation. -/
theorem State.AtStart.nearer (hs : s.AtStart) (hq : s.seq = .run) (ht : t.seq = .waitX ∨ t.seq = .done) :
    s.Nearer t := by
  rcases ht with ht | ht
  · refine ⟨by simp [ht], ?_⟩
    rw [State.stepsLeft_atStart hq hs, State.stepsLeft_waitX ht]
    omega
  · exact State.nearer_of_done (State.busy_iff.mpr (.inl hq)) ht

/-- A move that uses up the byte of exchange k: it sends the next frame, or STEP = k with no answer in hand is a point near the
end of the line, RDANGLE's verdict or PROG's wait. -/
theorem State.SeqInv.nearer {b : Byte} (h : t.SeqInv) (hnone : t.reply = none) (hcount : t.stepCount = s.stepCount)
    (hq : s.seq = .run) (hr : s.reply = some (.ok b)) (hk : 1 ≤ s.stepCount.toNat) : s.Nearer t := by
  have h0 : t.stepCount ≠ 0 := fun h0 => by rw [← hcount, h0] at hk; exact absurd hk (by decide)
  rw [State.Nearer, State.stepsLeft_ok hq hr]
  cases htq : t.seq with
  | idle =>
    rw [State.SeqInv, htq] at h
    obtain ⟨-, -, hzero, -⟩ := h
    exact absurd hzero h0
  | done => exact ⟨nofun, by rw [State.stepsLeft_done htq]; omega⟩
  | run => exact ⟨nofun, by rw [State.stepsLeft_resumed htq hnone h0]; omega⟩
  | waitX => exact ⟨nofun, by rw [State.stepsLeft_waitX htq, hcount]; omega⟩
  | settle =>
    rw [State.SeqInv, htq] at h
    obtain ⟨-, -, -, -, h1, -⟩ := h
    exact ⟨nofun, by rw [State.stepsLeft_settle htq, ← hcount, h1]; decide⟩

/-- A step in SEQ = Run. -/
theorem State.RunInv.step_nearer (h : s.RunInv) (hsafe : s.Safe) (hr : s.pins.reset = false) (hq : s.seq = .run) :
    Result.Reaches (step s) s.Nearer := by
  have hb : s.busy = true := State.busy_iff.mpr (.inl hq)
  cases hi : s.inHand with
  | error e => exact ⟨_, step_run_illegal hr hq hi, State.nearer_advance.mpr (State.nearer_of_done hb rfl)⟩
  | ok i =>
    have hwire := decodeOp_isWire hi
    obtain ⟨hbetween, hp⟩ := (State.runInv_iff hi).mp h
    obtain ⟨u, hu, -, hinv⟩ := State.InLine.exec_safe ⟨hbetween, hp, hsafe.1⟩ hq
    obtain ⟨-, -, -, -, -, -, -, hcount⟩ := exec_sameAround s hwire u hu
    refine ⟨u.advance, by rw [step_run hr hq hi, hu]; rfl, State.nearer_advance.mpr ?_⟩
    rcases exec_startsEndsOrUses hwire u hu with hs | hdone | ⟨⟨b, hreply⟩, hnone⟩
    · exact hs.nearer hq (exec_atStart_seq hwire hs u hu)
    · exact State.nearer_of_done hb hdone
    · exact hinv.nearer hnone hcount hq hreply ((State.runPoint_ok hreply).mp hp).1

/-- An exchange whose answer is there takes it. -/
theorem exec_wire_answered (hi : i.isWire = true) (hv : s.pins.xrspValid = true) :
    Result.Ensures (exec i s) fun u => ∃ r, u.seq = .run ∧ u.reply = some r ∧ u.stepCount = r.count s.stepCount := by
  cases i with
  | wireRd addr tx | wireWr addr tx | wireZero addr tx | wireProg addr tx | wireBurst addr tx =>
    refine Result.ensures_next.mpr ?_
    rw [s.exchange_eq_answeredWith _ addr tx hv]
    exact ⟨_, rfl, rfl, rfl⟩
  | _ => cases hi

/-- A step in SEQ = WaitX whose exchange is answered. -/
theorem State.WaitInv.step_nearer (h : s.WaitInv) (hok : s.build.Ok) (hr : s.pins.reset = false)
    (hv : s.pins.xrspValid = true) (hq : s.seq = .waitX) : Result.Reaches (step s) s.Nearer := by
  obtain ⟨-, -, i, x, f, -, hx, hf, hc, -⟩ := h
  obtain ⟨j, hd, u, hu, -⟩ := Xchg.exec_carried hok hc
  obtain ⟨r, huq, hreply, hcount⟩ := exec_wire_answered (decodeFrame_isWire hd) hv u hu
  have hk : s.stepCount.toNat < 4 :=
    (List.getElem?_eq_some_iff.mp hx).1.trans_le (Instr.exchanges_length_le_four s.build i)
  refine ⟨u.advance, by rw [step_waitX hr hq hf hd, hu]; rfl, State.nearer_advance.mpr ⟨by simp [huq], ?_⟩⟩
  rw [State.stepsLeft_waitX hq]
  cases r with
  | fail n => rw [State.stepsLeft_fail huq hreply]; omega
  | ok b =>
    have hnext : u.stepCount.toNat = s.stepCount.toNat + 1 := by
      rw [hcount, Reply.count, BitVec.toNat_add]
      exact Nat.mod_eq_of_lt (by simp; omega)
    rw [State.stepsLeft_ok huq hreply, hnext]
    omega

/-- The step in which the settle interval has elapsed. -/
theorem State.SettleInv.step_nearer (h : s.SettleInv) (hr : s.pins.reset = false) (he : s.pins.settleElapsed = true)
    (hq : s.seq = .settle) : Result.Reaches (step s) s.Nearer := by
  obtain ⟨-, -, hreply, -, h1, -⟩ := h
  refine ⟨_, step_settle hr hq, State.nearer_advance.mpr ?_⟩
  have hrun : ({ s with seq := .run } : State).stepsLeft = 1 := State.stepsLeft_resumed rfl hreply (by simp [h1])
  rw [State.settleMoves, if_pos he, State.Nearer, State.stepsLeft_settle hq, hrun]
  exact ⟨nofun, by decide⟩

/-- A step of a busy state whose waits are answered keeps the invariant and takes the bound down. -/
theorem State.Inv.step_nearer (h : s.Inv) (hb : s.busy = true) (hp : s.pins.Answers) :
    Result.Reaches (step s) fun t => t.Inv ∧ s.Nearer t := by
  have ⟨hok, _, hsafe⟩ := h
  obtain ⟨hr, -, hv, he⟩ := hp
  have hstep : Result.Reaches (step s) s.Nearer := by
    have hseq := hsafe.2
    rcases State.busy_iff.mp hb with hq | hq | hq <;> rw [State.SeqInv, hq] at hseq
    · exact hseq.step_nearer hsafe hr hq
    · exact hseq.step_nearer hok hr hv hq
    · exact hseq.step_nearer hr he hq
  obtain ⟨t, ht, hnearer⟩ := hstep
  exact ⟨t, ht, stepKeepsTheInvariant s t h ht, hnearer⟩

/-- A run of as many answered steps as the bound asks for ends the operation in hand, by induction over its pins. -/
theorem State.Inv.runWith_ends {ps : List Pins} (h : s.Inv) (hb : s.busy = true) (hps : ∀ p ∈ ps, p.Answers)
    (hlen : s.stepsLeft ≤ ps.length) : (runWith ps s).Reaches fun t => t.seq = .done ∧ t.rsp ≠ .absent := by
  induction ps generalizing s with
  | nil => exact absurd (State.stepsLeft_pos hb) (by simpa using hlen)
  | cons p ps ih =>
    obtain ⟨hp, hps⟩ := List.forall_mem_cons.mp hps
    obtain ⟨t, ht, hinv, hidle, hless⟩ := State.Inv.step_nearer (s := s.withPins p) h hb hp
    rw [runWith_cons ht]
    cases htb : t.busy with
    | true => exact ih hinv htb hps (by simp only [State.stepsLeft_withPins, List.length_cons] at hless hlen; omega)
    | false =>
      have hdone := (State.busy_eq_false_iff.mp htb).resolve_left hidle
      obtain ⟨u, hu, huq, hursp⟩ := runWith_done hdone fun p hp => ⟨(hps p hp).1, (hps p hp).2.1⟩
      obtain ⟨-, -, -, hseq⟩ := hinv
      rw [State.SeqInv, hdone] at hseq
      exact ⟨u, hu, huq, hursp ▸ hseq.2⟩

end

/-- Settles O54: no busy state is more than ten answered steps away from its end. -/
theorem everyOperationEndsWithinTenSteps : Obligations.EveryOperationEndsWithinTenSteps :=
  fun s _ h hb hlen hps => h.runWith_ends hb hps (hlen ▸ s.stepsLeft_le_ten)

end Sys2Proof.Machine
end
